-- ==== Sys2Proof/Word.lean ====
section
/-! DEFINITION. Words and the names shared by commands and state: a character of a field line, the two portals,
the three lines, the causes of a reset, and a value held once per portal or once per line. -/

namespace Sys2Proof

/-- The value of one character of a field line: its eight data bits (10_field_lines R182). -/
abbrev Byte := BitVec 8

/-- "Portal P stands for either portal" (00_scope, Values and names). -/
inductive Portal
  | a
  | b
deriving DecidableEq, Repr

/-- The three field lines (00_scope, Pins). -/
inductive Line
  | a
  | b
  | s
deriving DecidableEq, Repr

/-- The three causes that hold the part in reset (12_plan_store_and_start_up R210). -/
inductive ResetCause
  | powerOn
  | supplyLow
  | external
deriving DecidableEq, Repr

/-- One value for each portal. -/
structure PerPortal (α : Type) where
  /-- The value of portal A. -/
  a : α
  /-- The value of portal B. -/
  b : α
deriving DecidableEq, Repr

/-- One value for each line. -/
structure PerLine (α : Type) where
  /-- The value of Line A. -/
  a : α
  /-- The value of Line B. -/
  b : α
  /-- The value of Line S. -/
  s : α
deriving DecidableEq, Repr

/-- The value of portal `p`. -/
def PerPortal.get {α : Type} (v : PerPortal α) : Portal → α
  | .a => v.a
  | .b => v.b

/-- `v` with the value of portal `p` replaced by `x`. -/
def PerPortal.set {α : Type} (v : PerPortal α) (p : Portal) (x : α) : PerPortal α :=
  match p with
  | .a => ⟨x, v.b⟩
  | .b => ⟨v.a, x⟩

/-- The value of line `l`. -/
def PerLine.get {α : Type} (v : PerLine α) : Line → α
  | .a => v.a
  | .b => v.b
  | .s => v.s

/-- `v` with the value of line `l` replaced by `x`. -/
def PerLine.set {α : Type} (v : PerLine α) (l : Line) (x : α) : PerLine α :=
  match l with
  | .a => ⟨x, v.b, v.s⟩
  | .b => ⟨v.a, x, v.s⟩
  | .s => ⟨v.a, v.b, x⟩

/-- The portal whose station line `l` is; Line S serves no portal (01_portal_luminance R4). -/
def Line.portal : Line → Option Portal
  | .a => some .a
  | .b => some .b
  | .s => none

end Sys2Proof
end

