-- ==== Sys2Proof/Syntax.lean ====
section
/-! DEFINITION. The commands the part takes: one constructor for each row of spec/opcode_table.json, with the row's
operands. A request row stands for its whole frame arriving on a line [log 10]: `l` is the line it arrives on,
`bc` says whether it is broadcast, `fields` are its body characters after the request kind. -/

namespace Sys2Proof

/-- One command of the part. -/
inductive Instr
  /-- TICK (R1): the 100 ms tick of portal unit `p`. -/
  | tick (p : Portal)
  /-- HOLD_TIMER_EXPIRY (R14): the hold timer of portal unit `p` reaches 0. -/
  | holdTimerExpiry (p : Portal)
  /-- REPORT (R4). -/
  | report (l : Line) (bc : Bool) (fields : List Byte)
  /-- INTERVAL_TIMER_EXPIRY (R28): the interval timer of Photometer `p` reaches 0. -/
  | intervalTimerExpiry (p : Portal)
  /-- PHIN_RISING_EDGE (R30): an edge detected at the capture clock `clocks` after the one the state stands at. -/
  | phinRisingEdge (p : Portal) (clocks : Nat)
  /-- FIRST_EDGE_TIMEOUT (R31). -/
  | firstEdgeTimeout (p : Portal)
  /-- COUNT_OVERFLOW_TIMEOUT (R33). -/
  | countOverflowTimeout (p : Portal)
  /-- DRAFT_LOAD (R55). -/
  | draftLoad (l : Line) (bc : Bool) (fields : List Byte)
  /-- DRAFT_PUT (R56). -/
  | draftPut (l : Line) (bc : Bool) (fields : List Byte)
  /-- ADOPT (R64). -/
  | adopt (l : Line) (bc : Bool) (fields : List Byte)
  /-- PLAN_READ (R68). -/
  | planRead (l : Line) (bc : Bool) (fields : List Byte)
  /-- LEVEL_PASS (R71): the pass timer reaches 0. -/
  | levelPass
  /-- SET_DIRECTION (R77). -/
  | setDirection (l : Line) (bc : Bool) (fields : List Byte)
  /-- READ_ZONES (R92). -/
  | readZones (l : Line) (bc : Bool) (fields : List Byte)
  /-- CLAIM (R98). -/
  | claim (l : Line) (bc : Bool) (fields : List Byte)
  /-- RELEASE (R104). -/
  | release (l : Line) (bc : Bool) (fields : List Byte)
  /-- WITHDRAW (R106). -/
  | withdraw (l : Line) (bc : Bool) (fields : List Byte)
  /-- CLAIM_CHECK (R107): the 100 ms claim check timer expires. -/
  | claimCheck
  /-- CLAIM_EXPIRY (R107): the claim check at which the next timed claim's remaining time reaches 0. -/
  | claimExpiry
  /-- READ_CLAIMS (R113). -/
  | readClaims (l : Line) (bc : Bool) (fields : List Byte)
  /-- SAMPLE_EVENT (R133): the 1 ms sample timer expires; `true` is a high level of the pin. -/
  | sampleEvent (fireN backupN : Bool)
  /-- CLEAR_FIRE (R137). -/
  | clearFire (l : Line) (bc : Bool) (fields : List Byte)
  /-- ACK_EVENTS (R144). -/
  | ackEvents (l : Line) (bc : Bool) (fields : List Byte)
  /-- TRIP_PIN_CHANGE (R141): TRIP_N takes the level `high`. -/
  | tripPinChange (high : Bool)
  /-- TRIP_ASSERTION_ACCEPTED (R158): TRIP_N has stayed low for 1 µs. -/
  | tripAssertionAccepted
  /-- TRIP_RELEASE_ACCEPTED (R161): TRIP_N has stayed high for 1 µs. -/
  | tripReleaseAccepted
  /-- PERIOD_END (R150). -/
  | periodEnd
  /-- REFRESH (R151): the R-th period end; bit c of `flt` is the level of FLTc, `true` high. -/
  | refresh (flt : BitVec 32)
  /-- CLEAR_TRIP (R163). -/
  | clearTrip (l : Line) (bc : Bool) (fields : List Byte)
  /-- READ_CHANNELS (R167). -/
  | readChannels (l : Line) (bc : Bool) (fields : List Byte)
  /-- CLEAR_FAULTS (R174). -/
  | clearFaults (l : Line) (bc : Bool) (fields : List Byte)
  /-- ADDRESS_CHARACTER (R183): a character with mark bit 1 arrives. -/
  | addressCharacter (l : Line) (value : Byte)
  /-- DATA_CHARACTER (R185): a character with mark bit 0 arrives. -/
  | dataCharacter (l : Line) (value : Byte)
  /-- FRAMING_ERROR (R182): a stop bit is read at the low level. -/
  | framingError (l : Line)
  /-- GAP_TIMEOUT (R185): 3 character times of silence in COLLECT. -/
  | gapTimeout (l : Line)
  /-- TURNAROUND_SILENCE (R188): 2 character times of silence in TURNAROUND. -/
  | turnaroundSilence (l : Line)
  /-- REPLY_END (R189): the stop bit of the reply's CHECK has been sent. -/
  | replyEnd (l : Line)
  /-- UNKNOWN_KIND (R193): a request whose kind code is not listed. -/
  | unknownKind (l : Line) (bc : Bool) (kind : Byte) (fields : List Byte)
  /-- CLEAR_COUNTS (R191). -/
  | clearCounts (l : Line) (bc : Bool) (fields : List Byte)
  /-- READ_PORTALS (R198). -/
  | readPortals (l : Line) (bc : Bool) (fields : List Byte)
  /-- READ_PART (R202). -/
  | readPart (l : Line) (bc : Bool) (fields : List Byte)
  /-- SAVE (R208). -/
  | save (l : Line) (bc : Bool) (fields : List Byte)
  /-- PAGE_ERASED (R209). -/
  | pageErased
  /-- PROGRAMMING_COMPLETE (R209). -/
  | programmingComplete
  /-- VERIFY_COMPLETE (R209): `differs` says whether a byte read back differs from the snapshot, `marker` is the marker
  word read back after the commit (of no account where a byte differs). -/
  | verifyComplete (differs : Bool) (marker : BitVec 16)
  /-- RESET_ENTRY (R210): `cause` begins to stand. -/
  | resetEntry (cause : ResetCause)
  /-- RESET_RELEASE (R210): `cause` stops standing. -/
  | resetRelease (cause : ResetCause)
  /-- START_UP (R211): the start-up wait ends; the levels of ADDR4..0 and of LRATE1, LRATE0. -/
  | startUp (address : BitVec 5) (rate : BitVec 2)
deriving DecidableEq, Repr

end Sys2Proof
end

