-- ==== Sys2Proof/Decode.lean ====
section
/-! DEFINITION. The command a word spells by the bits of spec/opcode_table.json. The table gives no bits to any of its
48 rows (spec/98_reader.md: n_rows_with_fixed 0, n_rows_with_fields 0), so no word spells a command. [log 24] -/

namespace Sys2Proof

/-- No row of the table has bits, so every word is refused. -/
def decodeTableWord (_nbits _w : Nat) : Option Instr := none

end Sys2Proof
end

