-- ==== Sys2Proof/Config.lean ====
section
/-! DEFINITION. What is fixed for the part (the counts of its 16 MHz clock behind each stated duration, the capacities
of its collections) and the free values, which the spec leaves open: constants with no body. -/

namespace Sys2Proof.Config

/-- Periods of the 16 MHz clock in one second (00_scope, Pins: XIN, XOUT). -/
def clockHz : Nat := 16000000

/-- 100 ms in periods of the 16 MHz clock (R1, R70, R107). -/
def clocksPer100ms : Nat := 1600000

/-- 1 ms in periods of the 16 MHz clock (R28, R133). -/
def clocksPerMs : Nat := 16000

/-- 1 µs in periods of the 16 MHz clock: the capture clock's period (R30) and the TRIP qualification (R141). -/
def clocksPerUs : Nat := 16

/-- Periods of the 16 MHz clock in one tick of the 4 MHz PWM clock (R149). -/
def clocksPerPwm : Nat := 4

/-- The start-up wait, in periods of the 16 MHz clock (R211). -/
def startUpWait : Nat := 65536

/-- 2 ms in periods of the 16 MHz clock: how long POWER_ON outlasts the first rise of VDD (R210). -/
def powerOnClocks : Nat := 32000

/-- 12 ms in periods of the 16 MHz clock: the erasure of one page (R209). -/
def eraseClocks : Nat := 192000

/-- 40 µs in periods of the 16 MHz clock: the programming of one byte (R209). -/
def programClocks : Nat := 640

/-- 0.552 ms in periods of the 16 MHz clock: the read-back and the commit (R209). -/
def verifyClocks : Nat := 8832

/-- The most records in a sample window (R3). -/
def windowSize : Nat := 8

/-- The most claims in the claim table (R95). -/
def tableSize : Nat := 16

/-- The capture clock after arming at which the first-edge timeout falls, and the one after the first edge at which
the count overflow timeout falls (R31, R33). -/
def captureLimit : Nat := 65536

/-- The number of characters of the stored image (R207). -/
def imageSize : Nat := 512

/-- FREE VALUE (R209: whether a byte read back differs from what was programmed "is not settled by any other state of
the part"). Applied to `State.freeCount` when the clock ends a verification. [log 13] -/
opaque readBackDiffers : Nat → Bool

/-- FREE VALUE (R209): the marker word read back after the commit. Applied to `State.freeCount` when the clock ends a
verification. [log 13] -/
opaque markerReadBack : Nat → BitVec 16

end Sys2Proof.Config
end

