-- ==== Sys2Proof/Machine/Plan.lean ====
section
/-! DEFINITION. The lighting plan (03_the_lighting_plan): its records, their ranges, its codes, the validation of a
draft, and the built-in plan. -/

namespace Sys2Proof.Machine

/-- The direction modes (R50, R75). -/
inductive Direction
  | both
  | aIn
  | bIn
  | closed
deriving DecidableEq, Repr

/-- The source modes STATION, LOCAL, STATION_FALLBACK (R46, R50). -/
inductive SourceMode
  | station
  | localOnly
  | stationFallback
deriving DecidableEq, Repr

/-- The zone kinds (R48, R50). -/
inductive ZoneKind
  | unused
  | threshold
  | transition
  | interior
  | exit
deriving DecidableEq, Repr

/-- Polarity of a channel (R49). -/
inductive Polarity
  | activeHigh
  | activeLow
deriving DecidableEq, Repr

/-- Alignment of a channel's pulse (R49). -/
inductive Alignment
  | leading
  | trailing
deriving DecidableEq, Repr

/-- Trip level of a channel (R49). -/
inductive TripLevel
  | full
  | dark
deriving DecidableEq, Repr

/-- The general record (R45). -/
structure General where
  passPeriod : Nat
  pwmPeriod : Nat
  repetition : Nat
  initialDirection : Direction
  dayLevel : Nat
  nightLevel : Nat
  nightThreshold : Nat
  nightBand : Nat
  closedLevel : Nat
  fireLevel : Nat
  backupCap : Nat
  confirmCount : Nat
  autoResume : Bool
deriving DecidableEq, Repr

/-- One breakpoint of a curve: a luminance and a demand (R47). -/
structure Breakpoint where
  lum : Nat
  demand : Nat
deriving DecidableEq, Repr

/-- A portal record without its curve (R46). -/
structure PortalRecord where
  mode : SourceMode
  defaultLum : Nat
  sampleLife : Nat
  holdTime : Nat
  constS : Nat
  constN : Nat
  interval : Nat
deriving DecidableEq, Repr

/-- A zone record (R48). -/
structure ZoneRecord where
  kind : ZoneKind
  portal : Option Portal
  factor : Nat
  floor : Nat
  ceiling : Nat
  rise : Nat
  fall : Nat
  compensation : Bool
deriving DecidableEq, Repr

/-- A channel record (R49). -/
structure ChannelRecord where
  zone : Option Nat
  cutoff : Nat
  lo : Nat
  hi : Nat
  polarity : Polarity
  alignment : Alignment
  trip : TripLevel
  sense : Bool
deriving DecidableEq, Repr

/-- A plan: a general record, a portal record and a curve for each portal, twelve zone records, thirty-two channel
records (R44). -/
structure Plan where
  general : General
  portals : PerPortal PortalRecord
  curves : PerPortal (List Breakpoint)
  zones : List ZoneRecord
  channels : List ChannelRecord
deriving DecidableEq, Repr

/-! ### Ranges -/

/-- Every field of the general record is in the range of R45. -/
def General.inRange (g : General) : Bool :=
  1 ≤ g.passPeriod && g.passPeriod ≤ 20 && 2000 ≤ g.pwmPeriod && g.pwmPeriod ≤ 40000 && 1 ≤ g.repetition
    && g.repetition ≤ 64 && g.dayLevel ≤ 1000 && g.nightLevel ≤ 1000 && g.nightThreshold ≤ 9999 && g.nightBand ≤ 999
    && g.closedLevel ≤ 1000 && g.fireLevel ≤ 1000 && g.backupCap ≤ 1000 && 1 ≤ g.confirmCount && g.confirmCount ≤ 15

/-- Every field of the portal record is in the range of R46; the prescale is one of the four listed values. -/
def PortalRecord.inRange (r : PortalRecord) : Bool :=
  r.defaultLum ≤ 9999 && 1 ≤ r.sampleLife && r.sampleLife ≤ 600 && r.holdTime ≤ 900 && r.constS ≤ 16777215
    && (r.constN == 1 || r.constN == 2 || r.constN == 4 || r.constN == 8) && 1 ≤ r.interval && r.interval ≤ 60

/-- A breakpoint in the range of R47. -/
def Breakpoint.inRange (p : Breakpoint) : Bool := p.lum ≤ 9999 && p.demand ≤ 1000

/-- A curve of 2 to 12 breakpoints, each in range (R47). -/
def curveInRange (c : List Breakpoint) : Bool := 2 ≤ c.length && c.length ≤ 12 && c.all Breakpoint.inRange

/-- Every field of the zone record is in the range of R48. -/
def ZoneRecord.inRange (r : ZoneRecord) : Bool :=
  r.factor ≤ 1000 && r.floor ≤ 1000 && r.ceiling ≤ 1000 && 1 ≤ r.rise && r.rise ≤ 1000 && 1 ≤ r.fall && r.fall ≤ 1000

/-- A channel's zone is unbound or 0 to 11 (R49). -/
def zoneFieldInRange : Option Nat → Bool
  | none => true
  | some z => z ≤ 11

/-- Every field of the channel record is in the range of R49. -/
def ChannelRecord.inRange (r : ChannelRecord) : Bool :=
  zoneFieldInRange r.zone && r.cutoff ≤ 500 && r.lo ≤ 500 && 500 ≤ r.hi && r.hi ≤ 1000

/-- A plan of the form of R44 with every field in range. -/
def Plan.inRange (p : Plan) : Bool :=
  p.general.inRange && p.portals.a.inRange && p.portals.b.inRange && curveInRange p.curves.a && curveInRange p.curves.b
    && p.zones.length == 12 && p.zones.all ZoneRecord.inRange
    && p.channels.length == 32 && p.channels.all ChannelRecord.inRange

/-! ### Access by number -/

/-- The zone record that stands for a zone number the plan does not hold: UNUSED. -/
def unusedZone : ZoneRecord := ⟨.unused, none, 1000, 0, 1000, 1000, 1000, false⟩

/-- The record of zone `z`. -/
def Plan.zone (p : Plan) (z : Nat) : ZoneRecord := p.zones.getD z unusedZone

/-- The number of channels bound to zone `z` (R83). -/
def Plan.channelCount (p : Plan) (z : Nat) : Nat := (p.channels.filter fun c => c.zone == some z).length

/-! ### Codes (R50) -/

/-- Direction: BOTH 0, A_IN 1, B_IN 2, CLOSED 3. -/
def Direction.code : Direction → Nat
  | .both => 0
  | .aIn => 1
  | .bIn => 2
  | .closed => 3

/-- The direction of a code, if it is listed. -/
def Direction.ofCode : Nat → Option Direction
  | 0 => some .both
  | 1 => some .aIn
  | 2 => some .bIn
  | 3 => some .closed
  | _ => none

/-- Source mode: STATION 0, LOCAL 1, STATION_FALLBACK 2. -/
def SourceMode.code : SourceMode → Nat
  | .station => 0
  | .localOnly => 1
  | .stationFallback => 2

/-- The source mode of a code, if it is listed. -/
def SourceMode.ofCode : Nat → Option SourceMode
  | 0 => some .station
  | 1 => some .localOnly
  | 2 => some .stationFallback
  | _ => none

/-- Zone kind: UNUSED 0, THRESHOLD 1, TRANSITION 2, INTERIOR 3, EXIT 4. -/
def ZoneKind.code : ZoneKind → Nat
  | .unused => 0
  | .threshold => 1
  | .transition => 2
  | .interior => 3
  | .exit => 4

/-- The zone kind of a code, if it is listed. -/
def ZoneKind.ofCode : Nat → Option ZoneKind
  | 0 => some .unused
  | 1 => some .threshold
  | 2 => some .transition
  | 3 => some .interior
  | 4 => some .exit
  | _ => none

/-- Zone portal: A 0, B 1, none 255. -/
def zonePortalCode : Option Portal → Nat
  | some .a => 0
  | some .b => 1
  | none => 255

/-- The zone portal of a code, if it is listed. -/
def zonePortalOfCode (n : Nat) : Option (Option Portal) :=
  if n = 0 then some (some .a) else if n = 1 then some (some .b) else if n = 255 then some none else none

/-- Channel zone: 0 to 11, unbound 255. -/
def channelZoneCode : Option Nat → Nat
  | some z => z
  | none => 255

/-- The channel zone of a code, if it is listed. -/
def channelZoneOfCode (n : Nat) : Option (Option Nat) :=
  if n ≤ 11 then some (some n) else if n = 255 then some none else none

/-- NO or OFF 0, YES or ON 1. -/
def switchCode (b : Bool) : Nat := if b then 1 else 0

/-- The switch of a code, if it is listed. -/
def switchOfCode : Nat → Option Bool
  | 0 => some false
  | 1 => some true
  | _ => none

/-- Portal selector: A 0, B 1. -/
def portalOfCode : Nat → Option Portal
  | 0 => some .a
  | 1 => some .b
  | _ => none

/-! ### Validation (R62, R63) -/

/-- The first failing condition of a plan: section code, record number, reason code. -/
structure PlanFailure where
  /-- GENERAL 0, PORTAL 1, CURVE 2, ZONE 3, CHANNELS 4 (R50). -/
  sectionCode : Nat
  /-- The record number of R63. -/
  record : Nat
  /-- The reason code of R62. -/
  reason : Nat
deriving DecidableEq, Repr

/-- The reason code of the first failing pair of a curve, pair by pair, luminances before demands (R63). -/
def curveFailure : List Breakpoint → Option Nat
  | p :: q :: rest =>
    if q.lum ≤ p.lum then some 2 else if q.demand < p.demand then some 3 else curveFailure (q :: rest)
  | _ => none

/-- The first failure of a portal's record, then of its curve (R63); `n` is 0 for A, 1 for B. -/
def portalFailure (n : Nat) (r : PortalRecord) (c : List Breakpoint) : Option PlanFailure :=
  if r.mode = .localOnly ∧ r.constS = 0 then some ⟨1, n, 1⟩
  else
    match curveFailure c with
    | some reason => some ⟨2, n, reason⟩
    | none => none

/-- Whether zones of this kind name a portal (R48). -/
def ZoneKind.hasPortal : ZoneKind → Bool
  | .threshold => true
  | .transition => true
  | .exit => true
  | .interior => false
  | .unused => false

/-- The first failure of a zone record: its kind against its portal, then floor against ceiling (R63). -/
def zoneFailure (z : Nat) (r : ZoneRecord) : Option PlanFailure :=
  if r.kind.hasPortal && r.portal.isNone then some ⟨3, z, 4⟩
  else if !r.kind.hasPortal && r.portal.isSome then some ⟨3, z, 5⟩
  else if r.ceiling < r.floor then some ⟨3, z, 6⟩
  else none

/-- Whether a channel is bound to a zone that the plan holds as UNUSED. -/
def ChannelRecord.bindsUnused (p : Plan) (r : ChannelRecord) : Bool :=
  match r.zone with
  | some z => (p.zone z).kind == .unused
  | none => false

/-- The first failure of a channel record: its binding, then lo against hi (R63). -/
def channelFailure (p : Plan) (c : Nat) (r : ChannelRecord) : Option PlanFailure :=
  if r.bindsUnused p then some ⟨4, c, 7⟩ else if r.hi ≤ r.lo then some ⟨4, c, 8⟩ else none

/-- The first failing condition in the search order of R63, or `none` for a valid plan. -/
def Plan.firstFailure (p : Plan) : Option PlanFailure :=
  portalFailure 0 p.portals.a p.curves.a
    <|> portalFailure 1 p.portals.b p.curves.b
    <|> p.zones.zipIdx.findSome? (fun x => zoneFailure x.2 x.1)
    <|> p.channels.zipIdx.findSome? (fun x => channelFailure p x.2 x.1)

/-- A plan that passes every condition of R62. -/
def Plan.valid (p : Plan) : Bool := p.firstFailure.isNone

/-! ### The built-in plan (R69) -/

/-- The general record of the built-in plan. -/
def builtInGeneral : General :=
  { passPeriod := 5, pwmPeriod := 8000, repetition := 10, initialDirection := .both, dayLevel := 1000,
    nightLevel := 1000, nightThreshold := 0, nightBand := 0, closedLevel := 1000, fireLevel := 1000, backupCap := 1000,
    confirmCount := 3, autoResume := true }

/-- The portal record of both portals of the built-in plan. -/
def builtInPortal : PortalRecord :=
  { mode := .station, defaultLum := 9999, sampleLife := 60, holdTime := 120, constS := 0, constN := 1, interval := 5 }

/-- The curve of both portals of the built-in plan. -/
def builtInCurve : List Breakpoint := [⟨0, 1000⟩, ⟨9999, 1000⟩]

/-- The channel record of every channel of the built-in plan. -/
def builtInChannel : ChannelRecord :=
  { zone := some 0, cutoff := 0, lo := 0, hi := 1000, polarity := .activeHigh, alignment := .leading, trip := .full,
    sense := false }

/-- The built-in plan. -/
def builtInPlan : Plan :=
  { general := builtInGeneral
    portals := ⟨builtInPortal, builtInPortal⟩
    curves := ⟨builtInCurve, builtInCurve⟩
    zones := { unusedZone with kind := .interior } :: List.replicate 11 unusedZone
    channels := List.replicate 32 builtInChannel }

end Sys2Proof.Machine
end

