-- ==== Sys2Proof/Machine/Blocks.lean ====
section
/-! DEFINITION. The state of each block (the tables at the head of the chapters), the value each holds while the part is
in reset, and the value start-up gives it from the running plan. -/

namespace Sys2Proof.Machine

/-! ### Portal units (01_portal_luminance) -/

/-- Where a sample came from (R2). -/
inductive Source
  | station
  | photometer
deriving DecidableEq, Repr

/-- The quality of a sample (R2). -/
inductive Quality
  | good
  | degraded
deriving DecidableEq, Repr

/-- A sample record (R2). -/
structure Sample where
  value : Nat
  source : Source
  quality : Quality
  arrival : BitVec 24
deriving DecidableEq, Repr

/-- The portal states NO_DATA, LIVE, HOLD, DEFAULT (R20 to R23). -/
inductive PortalState
  | noData
  | live
  | hold
  | fallback
deriving DecidableEq, Repr

/-- One portal unit. -/
structure PortalUnit where
  /-- The sample window, oldest first (R3). -/
  window : List Sample
  state : PortalState
  /-- The effective luminance (R19). -/
  effLum : Nat
  /-- The held luminance (R22). -/
  heldLum : Nat
  /-- The station mark (R9). -/
  mark : Option (BitVec 24)
  /-- The hold timer's remaining ticks, `none` when stopped (R14). -/
  holdTimer : Option Nat
  /-- The time base (R1). -/
  timeBase : BitVec 24
  /-- Clocks of 16 MHz since the last tick (R1). -/
  tickPhase : Nat
  /-- Working copy of the sample life, in seconds (R13). -/
  life : Nat
  /-- Working copy of the hold time, in seconds (R13). -/
  holdTime : Nat
  /-- Working copy of the default luminance (R13). -/
  defaultLum : Nat
  /-- The last local sample (R10). -/
  lastLocal : Option Nat
deriving DecidableEq, Repr

/-- A portal unit as start-up leaves it, with the record of the running plan (R24). -/
def PortalUnit.started (r : PortalRecord) : PortalUnit :=
  { window := [], state := .noData, effLum := r.defaultLum, heldLum := 0, mark := none, holdTimer := none, timeBase := 0,
    tickPhase := 0, life := r.sampleLife, holdTime := r.holdTime, defaultLum := r.defaultLum, lastLocal := none }

/-! ### Photometers (02_local_photometer_capture) -/

/-- The measurement states OFF, WAITING, ARMED, COUNTING (R27). -/
inductive MeasureState
  | off
  | waiting
  | armed
  | counting
deriving DecidableEq, Repr

/-- Health of a photometer (R37). -/
inductive Health
  | ok
  | lost
deriving DecidableEq, Repr

/-- One photometer. -/
structure Photometer where
  state : MeasureState
  /-- Remaining milliseconds of the interval timer, `none` when stopped (R28). -/
  interval : Option Nat
  /-- Clocks of 16 MHz into the present millisecond (R28). -/
  msPhase : Nat
  /-- S as copied at the last arming (R29). -/
  constS : Nat
  /-- n as copied at the last arming (R29). -/
  constN : Nat
  /-- Capture clocks since arming (R31). -/
  edgeWindow : Nat
  /-- Capture clocks since the first edge (R32). -/
  captureCount : Nat
  /-- Rising edges since the first edge (R32). -/
  edgeCount : Nat
  /-- The consecutive timeout count (R35). -/
  timeouts : Nat
  health : Health
  /-- Capture clocks since the last rising edge detected on PHIN, 2 standing for two or more: the sampling history that
  decides whether a low sample can have come between two edges (R30). [log 12] -/
  sinceEdge : Nat
deriving DecidableEq, Repr

/-- A photometer in OFF (R38, R39). The copied constants and counts have no stated reset value. [log 4] -/
def Photometer.off : Photometer :=
  { state := .off, interval := none, msPhase := 0, constS := 0, constN := 1, edgeWindow := 0, captureCount := 0,
    edgeCount := 0, timeouts := 0, health := .ok, sinceEdge := 2 }

/-- Whether the record puts the photometer into OFF (R27). -/
def PortalRecord.photometerOff (r : PortalRecord) : Bool := r.mode == .station || r.constS == 0

/-- A photometer as start-up leaves it (R38). -/
def Photometer.started (r : PortalRecord) : Photometer :=
  if r.photometerOff then Photometer.off
  else { Photometer.off with state := .waiting, interval := some (1000 * r.interval) }

/-! ### Plan memory and plan store (03_the_lighting_plan, 12_plan_store_and_start_up) -/

/-- Where start-up took the running plan from (R64, R211). -/
inductive PlanSource
  | saved
  | builtIn
deriving DecidableEq, Repr

/-- Plan memory. -/
structure PlanMemory where
  running : Plan
  draft : Plan
  source : PlanSource
deriving DecidableEq, Repr

/-- Plan memory holding one plan as running plan and draft (R53, R211). -/
def PlanMemory.loaded (p : Plan) (src : PlanSource) : PlanMemory := ⟨p, p, src⟩

/-- The store states IDLE, ERASING, PROGRAMMING, VERIFYING (R209). -/
inductive StoreState
  | idle
  | erasing
  | programming
  | verifying
deriving DecidableEq, Repr

/-- The last save result (R209). -/
inductive SaveResult
  | none
  | saved
  | failed
deriving DecidableEq, Repr

/-- The plan store. -/
structure Store where
  /-- The stored image, 512 bytes (R207). -/
  image : List Byte
  state : StoreState
  snapshot : Option (List Byte)
  result : SaveResult
  /-- Pages erased, or bytes programmed, in the present step (R209). -/
  index : Nat
  /-- Clocks of 16 MHz into the present page, byte or verification (R209). -/
  phase : Nat
deriving DecidableEq, Repr

/-- The plan store after reset, with the image it holds (R209). -/
def Store.idleWith (image : List Byte) : Store :=
  { image := image, state := .idle, snapshot := Option.none, result := .none, index := 0, phase := 0 }

/-- Erased memory reads 0xFF in every byte (R207). -/
def erasedImage : List Byte := List.replicate Config.imageSize 0xFF

/-! ### Zone level engine (04_zone_targets, 06_applied_levels_and_ramping) -/

/-- The day/night state (R79). -/
inductive DayNight
  | day
  | night
deriving DecidableEq, Repr

/-- The five flags of a zone level record (R72). -/
structure ZoneFlags where
  claimedFloor : Bool
  claimedCap : Bool
  forced : Bool
  compensated : Bool
  capped : Bool
deriving DecidableEq, Repr

/-- No flag set. -/
def ZoneFlags.clear : ZoneFlags := ⟨false, false, false, false, false⟩

/-- A zone level record (R72). -/
structure ZoneLevel where
  target : Nat
  applied : Nat
  /-- The seeding mark (R118). -/
  seeding : Bool
  flags : ZoneFlags
deriving DecidableEq, Repr

/-- The zone level engine. -/
structure ZoneEngine where
  /-- Remaining 100 ms units of the pass timer (R70). -/
  passTimer : Nat
  /-- Clocks of 16 MHz into the present unit (R70). -/
  passPhase : Nat
  direction : Direction
  dayNight : DayNight
  /-- The zone level records, zone 0 first. -/
  zones : List ZoneLevel
deriving DecidableEq, Repr

/-- The engine as start-up leaves it: every target and applied level 0, every mark set, every flag clear (R72, R70, R75,
R79). -/
def ZoneEngine.started (g : General) : ZoneEngine :=
  { passTimer := g.passPeriod, passPhase := 0, direction := g.initialDirection, dayNight := .day,
    zones := List.replicate 12 ⟨0, 0, true, ZoneFlags.clear⟩ }

/-! ### Claim table (05_claims) -/

/-- Claim kinds (R94, R96). -/
inductive ClaimKind
  | floor
  | cap
  | force
deriving DecidableEq, Repr

/-- A claim record (R94). -/
structure Claim where
  owner : Line
  id : Nat
  kind : ClaimKind
  level : Nat
  /-- The zone set: bit z is set when zone z is in it. -/
  zones : BitVec 12
  /-- Remaining time in 100 ms units, `none` for an indefinite claim. -/
  remaining : Option Nat
deriving DecidableEq, Repr

/-- The claim table. -/
structure ClaimTable where
  /-- The claims in insertion order, oldest first (R95). -/
  table : List Claim
  /-- Clocks of 16 MHz into the present claim check period (R107). -/
  phase : Nat
deriving DecidableEq, Repr

/-- The claim table after reset (R114). -/
def ClaimTable.empty : ClaimTable := ⟨[], 0⟩

/-! ### Safety inputs (07_safety_inputs) -/

/-- A filter: filtered state and run count (R134). -/
structure Filter where
  /-- The filtered state: `true` is ASSERTED. -/
  asserted : Bool
  run : Nat
deriving DecidableEq, Repr

/-- The safety inputs. -/
structure SafetyInputs where
  fire : Filter
  backup : Filter
  /-- The fire latch (R136). -/
  latch : Bool
  /-- The TRIP state: `true` is ASSERTED (R141). -/
  trip : Bool
  /-- Clocks of 16 MHz that TRIP_N has stood at the other level, `none` with no qualification under way (R141). -/
  qualifying : Option Nat
  seenFire : Bool
  seenBackup : Bool
  seenTrip : Bool
  /-- Clocks of 16 MHz into the present sample period (R133). -/
  samplePhase : Nat
deriving DecidableEq, Repr

/-- The safety inputs at reset (R147). -/
def SafetyInputs.held : SafetyInputs :=
  { fire := ⟨false, 0⟩, backup := ⟨false, 0⟩, latch := false, trip := false, qualifying := none, seenFire := false,
    seenBackup := false, seenTrip := false, samplePhase := 0 }

/-! ### Output stage (08_output_channels) -/

/-- The stage states (R156 to R158). -/
inductive StageState
  | released
  | running
  | tripped
deriving DecidableEq, Repr

/-- A channel of the output stage: its preload and its channel setting. -/
structure ChannelOut where
  /-- The level preload (R152). -/
  preload : Nat
  /-- The active duty (R153). -/
  duty : Nat
  polarity : Polarity
  alignment : Alignment
  trip : TripLevel
deriving DecidableEq, Repr

/-- The output stage. -/
structure Stage where
  /-- The PWM counter (R149). -/
  counter : Nat
  /-- The active period (R149). -/
  period : Nat
  /-- The active repetition (R149). -/
  repetition : Nat
  /-- The refresh counter (R150). -/
  refreshCount : Nat
  /-- The channels, channel 0 first. -/
  chans : List ChannelOut
  state : StageState
  /-- The first levels mark (R152). -/
  firstLevels : Bool
  /-- The resume mark (R161). -/
  resume : Bool
  /-- The plan loaded mark (R149). -/
  planLoaded : Bool
deriving DecidableEq, Repr

/-- A channel as the plan load leaves it (R149, R152). -/
def ChannelOut.loaded (r : ChannelRecord) : ChannelOut := ⟨0, 0, r.polarity, r.alignment, r.trip⟩

/-- The output stage at the plan load: RELEASED, or TRIPPED if TRIP is asserted then (R149, R152, R159, R166). -/
def Stage.loaded (p : Plan) (trip : Bool) : Stage :=
  { counter := 0, period := p.general.pwmPeriod, repetition := p.general.repetition, refreshCount := 0,
    chans := p.channels.map ChannelOut.loaded, state := if trip then .tripped else .released, firstLevels := false,
    resume := false, planLoaded := true }

/-- The output stage while the part is held in reset and through the start-up wait (R166). The active period and
repetition and the channel settings have no stated value before the plan load: the built-in plan's. [log 4] -/
def Stage.held : Stage := { Stage.loaded builtInPlan false with planLoaded := false }

/-! ### Fault sensing (09_luminaire_fault_sensing) -/

/-- Fault states (R171). -/
inductive FaultState
  | clear
  | suspect
  | faulted
deriving DecidableEq, Repr

/-- The fault record of a channel. -/
structure FaultRecord where
  state : FaultState
  /-- The confirm count (R171). -/
  count : Nat
  /-- The last sample: `none`, or `some true` for ASSERTED (R171). -/
  last : Option Bool
deriving DecidableEq, Repr

/-- A record at reset (R179). -/
def FaultRecord.initial : FaultRecord := ⟨.clear, 0, none⟩

/-- The thirty-two records at reset (R179). -/
def initialFaults : List FaultRecord := List.replicate 32 FaultRecord.initial

/-! ### Line ports (10_field_lines) -/

/-- The line states (R184 to R189). -/
inductive LineState
  | listen
  | collect
  | turnaround
  | reply
deriving DecidableEq, Repr

/-- One line port. -/
structure LinePort where
  state : LineState
  /-- The frame buffer (R185). -/
  frame : List Byte
  /-- The reply buffer (R186). -/
  reply : List Byte
  /-- Clocks of 16 MHz since the end of the last character, `none` when stopped (R185, R188). -/
  silence : Option Nat
  /-- Clocks of 16 MHz since the reply began (R189). -/
  sent : Nat
  /-- The rejected frame count (R190). -/
  rejected : Nat
  /-- The dropped reply count (R190). -/
  dropped : Nat
deriving DecidableEq, Repr

/-- A line port at reset and as start-up puts it in LISTEN (R192, R211). The line state and the silence timer have no stated
value while the part is held in reset and through the start-up wait: LISTEN and stopped. [log 4] -/
def LinePort.initial : LinePort :=
  { state := .listen, frame := [], reply := [], silence := none, sent := 0, rejected := 0, dropped := 0 }

/-- The station address and the line rate, shared by the three ports (R181). -/
structure Straps where
  /-- ADDR4 (most significant) to ADDR0. -/
  address : BitVec 5
  /-- LRATE1 (most significant) and LRATE0. -/
  rate : BitVec 2
deriving DecidableEq, Repr

/-! ### Reset and supply monitor (12_plan_store_and_start_up) -/

/-- Whether the part is held in reset, in the start-up wait, or started (R210, R211). -/
inductive Phase
  | held
  | wait
  | run
deriving DecidableEq, Repr

/-- The reset and supply monitor, with the part's clock divider. -/
structure Monitor where
  phase : Phase
  /-- POWER_ON stands (R210). -/
  powerOn : Bool
  /-- SUPPLY_LOW stands (R210). -/
  supplyLow : Bool
  /-- EXTERNAL stands (R210). -/
  external : Bool
  /-- The recorded reset cause (R210). -/
  cause : ResetCause
  /-- Clocks of 16 MHz since VDD first rose above 2.9 V at a power-up (R210). -/
  powerTimer : Option Nat
  /-- Clocks of 16 MHz of the start-up wait (R211). -/
  waitClocks : Nat
  /-- The divider that derives the 4 MHz and 1 MHz clocks (00_scope, Pins; R149). -/
  divider : Nat
deriving DecidableEq, Repr

/-! ### Input pins (00_scope, Pins) -/

/-- The levels last presented at the input pins that the part samples; `true` or a set bit is high. -/
structure Pins where
  fireN : Bool
  backupN : Bool
  tripN : Bool
  flt : BitVec 32
  address : BitVec 5
  rate : BitVec 2
deriving DecidableEq, Repr

end Sys2Proof.Machine
end

