-- ==== Sys2Proof/Machine/State.lean ====
section
/-! DEFINITION. The whole state of the part, its state after reset, and the reasons a step can stop. -/

namespace Sys2Proof.Machine

/-- The state of the part: one field for each block of 00_scope, the input pins, the queue of waiting commands. -/
structure State where
  monitor : Monitor
  pins : Pins
  straps : Straps
  plans : PlanMemory
  store : Store
  portals : PerPortal PortalUnit
  photometers : PerPortal Photometer
  engine : ZoneEngine
  claims : ClaimTable
  safety : SafetyInputs
  stage : Stage
  /-- The fault records, channel 0 first. -/
  faults : List FaultRecord
  lines : PerLine LinePort
  /-- How many free values the run has taken (the MODEL's own field). [log 13] -/
  freeCount : Nat
  /-- The commands that are waiting, first in, first out (the MODEL's own field). -/
  pending : List Instr
deriving DecidableEq, Repr

/-- The reasons the machine stops with a fault: none. The spec gives the part no fault that stops it, and every command
has an effect or is without effect, so nothing raises one (safe: no behaviour is cut off). -/
inductive Fault
deriving DecidableEq, Repr

/-- The reasons a command is refused. -/
inductive Refusal
  /-- Raised only by an arm of `exec` for a command not modelled yet (safe: the machine stops); no arm raises it. -/
  | notModelled (mnemonic : String)
deriving DecidableEq, Repr

/-- The reset and supply monitor of `State.reset`: started, after a power-up (R210). [log 1] -/
def Monitor.started : Monitor :=
  { phase := .run, powerOn := false, supplyLow := false, external := false, cause := .powerOn, powerTimer := none,
    waitClocks := 0, divider := 0 }

/-- The input pins of `State.reset`: every safety and fault input at its quiet (high) level, station address 1, both rate
straps low. [log 2, log 3] -/
def Pins.quiet : Pins :=
  { fireN := true, backupN := true, tripN := true, flt := BitVec.allOnes 32, address := 1, rate := 0 }

/-- The part right after reset. "Reset in any chapter means the part's reset by any of its causes, followed by
start-up" (00_scope): the state that RESET_ENTRY, RESET_RELEASE and START_UP leave with an erased image, so running the
built-in plan. The sample timer, which starts at the release of reset (R133), has run the start-up wait. [log 1, log 2,
log 3, log 4, log 26] -/
def State.reset : State :=
  { monitor := Monitor.started
    pins := Pins.quiet
    straps := ⟨1, 0⟩
    plans := PlanMemory.loaded builtInPlan .builtIn
    store := Store.idleWith erasedImage
    portals := ⟨PortalUnit.started builtInPortal, PortalUnit.started builtInPortal⟩
    photometers := ⟨Photometer.started builtInPortal, Photometer.started builtInPortal⟩
    engine := ZoneEngine.started builtInGeneral
    claims := ClaimTable.empty
    safety := { SafetyInputs.held with samplePhase := Config.startUpWait % Config.clocksPerMs }
    stage := Stage.loaded builtInPlan false
    faults := initialFaults
    lines := ⟨LinePort.initial, LinePort.initial, LinePort.initial⟩
    freeCount := 0
    pending := [] }

/-- `s` with portal unit `p` replaced. -/
def State.setPortal (s : State) (p : Portal) (u : PortalUnit) : State := { s with portals := s.portals.set p u }

/-- `s` with Photometer `p` replaced. -/
def State.setPhotometer (s : State) (p : Portal) (m : Photometer) : State :=
  { s with photometers := s.photometers.set p m }

/-- `s` with line port `l` replaced. -/
def State.setLine (s : State) (l : Line) (x : LinePort) : State := { s with lines := s.lines.set l x }

/-- `s` with another claim table. -/
def State.setTable (s : State) (t : List Claim) : State := { s with claims := { s.claims with table := t } }

end Sys2Proof.Machine
end

