-- ==== Sys2Proof/Machine/Ops.lean ====
section
/-! DEFINITION. The shared operations: rounding, the median, the sample window and the effective luminance, the curve
lookup, filters, the eligibility of claims, fault counts. -/

namespace Sys2Proof.Machine

/-! ### Arithmetic (00_scope, Quantities and units) -/

/-- The least whole number not below a / b. -/
def ceilDiv (a b : Nat) : Nat := (a + b - 1) / b

/-- A counter of a line port after one more event: it stops at 65,535 (R190). -/
def bump (n : Nat) : Nat := min 65535 (n + 1)

/-! ### The sample window and the effective luminance (01_portal_luminance) -/

/-- The age of an arrival time: the time base minus it, modulo 16,777,216 (R1). -/
def PortalUnit.age (u : PortalUnit) (t : BitVec 24) : Nat := (u.timeBase - t).toNat

/-- The used samples: the GOOD ones if there is one, otherwise the DEGRADED ones (R17). -/
def usedSamples (w : List Sample) : List Sample :=
  if w.any fun x => x.quality == .good then w.filter fun x => x.quality == .good
  else w.filter fun x => x.quality == .degraded

/-- The median: position (k + 1) / 2 for k odd, k / 2 + 1 for k even, counted from 1 in ascending order; both are index
k / 2 counted from 0 (R18). -/
def upperMedian (values : List Nat) : Nat := (values.insertionSort (· ≤ ·)).getD (values.length / 2) 0

/-- The median of the used samples of a window (R17, R18). -/
def windowMedian (w : List Sample) : Nat := upperMedian ((usedSamples w).map Sample.value)

/-- The effective luminance that the portal state calls for (R19). -/
def PortalUnit.figure (u : PortalUnit) : Nat :=
  match u.state with
  | .noData => u.defaultLum
  | .live => windowMedian u.window
  | .hold => u.heldLum
  | .fallback => u.defaultLum

/-- The unit with its effective luminance derived again (R19). -/
def PortalUnit.derive (u : PortalUnit) : PortalUnit := { u with effLum := u.figure }

/-- The window with a sample placed at the newest end, the oldest record evicted from a window of 8 (R3). -/
def pushSample (w : List Sample) (x : Sample) : List Sample := (w ++ [x]).drop (w.length + 1 - Config.windowSize)

/-- A sample is entered: the portal is LIVE, a hold timer stops, the effective luminance is derived again (R3, R19,
R21). -/
def PortalUnit.enter (u : PortalUnit) (value : Nat) (src : Source) (q : Quality) : PortalUnit :=
  ({ u with window := pushSample u.window ⟨value, src, q, u.timeBase⟩, state := .live, holdTimer := none }).derive

/-- The unit whose window has been emptied: the held luminance is the effective luminance that stood before; HOLD with
the timer started, or DEFAULT at once for a hold time of 0 (R22). -/
def PortalUnit.runDry (u : PortalUnit) : PortalUnit :=
  if u.holdTime = 0 then
    { u with window := [], heldLum := u.effLum, state := .fallback, holdTimer := none, effLum := u.defaultLum }
  else { u with window := [], heldLum := u.effLum, state := .hold, holdTimer := some (10 * u.holdTime) }

/-- The unit after records have left its window, `w` being what remains: nothing happens to an empty window; a window
emptied runs dry; otherwise the effective luminance is derived again (R6, R13, R19, R22). -/
def PortalUnit.keep (u : PortalUnit) (w : List Sample) : PortalUnit :=
  if u.window.isEmpty then u else if w.isEmpty then u.runDry else ({ u with window := w }).derive

/-! ### Curve lookup (R73) -/

/-- The lookup from breakpoint `p` on, for a luminance not below `p`. -/
def lookupFrom (p : Breakpoint) (rest : List Breakpoint) (lum : Nat) : Nat :=
  match rest with
  | [] => p.demand
  | q :: more =>
    if lum < q.lum then p.demand + ceilDiv ((q.demand - p.demand) * (lum - p.lum)) (q.lum - p.lum)
    else lookupFrom q more lum

/-- The curve lookup (R73). (A curve holds at least two breakpoints, R47; an empty list gives 0.) -/
def curveLookup (c : List Breakpoint) (lum : Nat) : Nat :=
  match c with
  | [] => 0
  | p :: rest => if lum < p.lum then p.demand else lookupFrom p rest lum

/-- The threshold demand of portal `p`: its effective luminance through its running curve (R8, R26, R74). -/
def State.demand (s : State) (p : Portal) : Nat :=
  curveLookup (s.plans.running.curves.get p) (s.portals.get p).effLum

/-! ### Filters (R134) -/

/-- A filter after one sample (`true` asserted). -/
def Filter.sample (f : Filter) (asserted : Bool) : Filter :=
  if asserted == f.asserted then { f with run := 0 }
  else if f.run < 7 then { f with run := f.run + 1 }
  else ⟨asserted, 0⟩

/-- Whether a sample makes the filter take a change to ASSERTED (R136, R140, R143). -/
def Filter.takesAssertion (f : Filter) (asserted : Bool) : Bool := !f.asserted && (f.sample asserted).asserted

/-! ### Zones and claims -/

/-- Whether Line P, the station line of portal `p`, may claim a zone with this record (R99); also the test of
eligibility for its claims (R110). -/
def stationMayClaim (p : Portal) (r : ZoneRecord) : Bool :=
  (r.kind.hasPortal && r.portal == some p) || r.kind == .interior

/-- Whether a claim is eligible for zone `z` under a running plan (R110). -/
def Claim.eligible (plan : Plan) (z : Nat) (c : Claim) : Bool :=
  c.zones.getLsbD z && (plan.zone z).kind != .unused
    && (match c.owner.portal with
        | some p => stationMayClaim p (plan.zone z)
        | none => true)

/-- The highest of a list of levels, `none` for the empty list. -/
def highest : List Nat → Option Nat
  | [] => none
  | x :: xs =>
    match highest xs with
    | none => some x
    | some y => some (max x y)

/-- The lowest of a list of levels, `none` for the empty list. -/
def lowest : List Nat → Option Nat
  | [] => none
  | x :: xs =>
    match lowest xs with
    | none => some x
    | some y => some (min x y)

/-- The claim summary of a zone (R111). -/
structure Summary where
  /-- The highest eligible FORCE level. -/
  force : Option Nat
  /-- F, the highest eligible FLOOR level, 0 if there is none. -/
  floor : Nat
  /-- C, the lowest eligible CAP level, 1000 if there is none. -/
  cap : Nat
deriving DecidableEq, Repr

/-- The levels of the claims of one kind eligible for zone `z`. -/
def eligibleLevels (plan : Plan) (table : List Claim) (z : Nat) (k : ClaimKind) : List Nat :=
  (table.filter fun c => c.eligible plan z && c.kind == k).map Claim.level

/-- The claim summary of zone `z` (R111). -/
def summaryOf (plan : Plan) (table : List Claim) (z : Nat) : Summary :=
  { force := highest (eligibleLevels plan table z .force)
    floor := (highest (eligibleLevels plan table z .floor)).getD 0
    cap := (lowest (eligibleLevels plan table z .cap)).getD 1000 }

/-- The claim of a key, if it is held (R94). -/
def heldClaim (table : List Claim) (owner : Line) (id : Nat) : Option Claim :=
  table.find? fun c => c.owner == owner && c.id == id

/-- The table without the claim of a key: the claims after it close up (R95, R104, R106). -/
def removeClaim (table : List Claim) (owner : Line) (id : Nat) : List Claim :=
  table.filter fun c => !(c.owner == owner && c.id == id)

/-- The fault count of zone `z`: the FAULTED channels bound to it (R176). -/
def faultCount (plan : Plan) (faults : List FaultRecord) (z : Nat) : Nat :=
  ((plan.channels.zip faults).filter fun x => x.1.zone == some z && x.2.state == .faulted).length

/-! ### Whether blocks act -/

/-- The blocks other than the safety inputs and the monitor act from start-up to the next reset (R211). -/
def State.started (s : State) : Bool := s.monitor.phase == .run

/-- The safety inputs act from the release of reset (R133, R147). -/
def State.watching (s : State) : Bool := s.monitor.phase != .held

end Sys2Proof.Machine
end

