-- ==== Sys2Proof/Machine/Operands.lean ====
section
/-! DEFINITION. The operands of requests: the fields of bodies (11_requests_and_replies), the plan records on the wire
in both directions, frames and their check, result codes. -/

namespace Sys2Proof.Machine

/-! ### Fields (R196: most significant character first) -/

/-- A one-character field. -/
def u8 (n : Nat) : Byte := BitVec.ofNat 8 n

/-- A two-character field. -/
def be16 (n : Nat) : List Byte := [u8 (n / 256), u8 n]

/-- A three-character field. -/
def be24 (n : Nat) : List Byte := [u8 (n / 65536), u8 (n / 256), u8 n]

/-- The number in a two-character field. -/
def nat16 (h l : Byte) : Nat := h.toNat * 256 + l.toNat

/-- The number in a three-character field. -/
def nat24 (h m l : Byte) : Nat := h.toNat * 65536 + m.toNat * 256 + l.toNat

/-- A flag or on/off figure: 0 or 1 (R196). -/
def flag (b : Bool) : Byte := if b then 1 else 0

/-- `n` pieces of `k` characters, one after another. -/
def chunks (k : Nat) : Nat → List Byte → List (List Byte)
  | 0, _ => []
  | n + 1, l => l.take k :: chunks k n (l.drop k)

/-- All of a list of optional values, or `none` if one is missing. -/
def allSome {α : Type} : List (Option α) → Option (List α)
  | [] => some []
  | none :: _ => none
  | some x :: rest =>
    match allSome rest with
    | some xs => some (x :: xs)
    | none => none

/-- A value that passes a check. -/
def checked {α : Type} (ok : α → Bool) (x : α) : Option α := if ok x then some x else none

/-! ### Plan records on the wire (R204, R205) -/

/-- The 21 characters of the general record. -/
def General.bytes (g : General) : List Byte :=
  [u8 g.passPeriod] ++ be16 g.pwmPeriod ++ [u8 g.repetition, u8 g.initialDirection.code] ++ be16 g.dayLevel
    ++ be16 g.nightLevel ++ be16 g.nightThreshold ++ be16 g.nightBand ++ be16 g.closedLevel ++ be16 g.fireLevel
    ++ be16 g.backupCap ++ [u8 g.confirmCount, u8 (switchCode g.autoResume)]

/-- The general record that 21 characters carry, if every field is in range (R57). -/
def General.parse : List Byte → Option General
  | [pp, w1, w0, rr, dd, a1, a0, b1, b0, c1, c0, e1, e0, f1, f0, g1, g0, h1, h0, k, t] =>
    match Direction.ofCode dd.toNat, switchOfCode t.toNat with
    | some dir, some auto =>
      checked General.inRange
        { passPeriod := pp.toNat, pwmPeriod := nat16 w1 w0, repetition := rr.toNat, initialDirection := dir,
          dayLevel := nat16 a1 a0, nightLevel := nat16 b1 b0, nightThreshold := nat16 c1 c0, nightBand := nat16 e1 e0,
          closedLevel := nat16 f1 f0, fireLevel := nat16 g1 g0, backupCap := nat16 h1 h0, confirmCount := k.toNat,
          autoResume := auto }
    | _, _ => none
  | _ => none

/-- The 12 characters of a portal record. -/
def PortalRecord.bytes (r : PortalRecord) : List Byte :=
  [u8 r.mode.code] ++ be16 r.defaultLum ++ be16 r.sampleLife ++ be16 r.holdTime ++ be24 r.constS
    ++ [u8 r.constN, u8 r.interval]

/-- The portal record that 12 characters carry, if every field is in range (R58). -/
def PortalRecord.parse : List Byte → Option PortalRecord
  | [m, d1, d0, l1, l0, h1, h0, s2, s1, s0, n, i] =>
    match SourceMode.ofCode m.toNat with
    | some mode =>
      checked PortalRecord.inRange
        { mode := mode, defaultLum := nat16 d1 d0, sampleLife := nat16 l1 l0, holdTime := nat16 h1 h0,
          constS := nat24 s2 s1 s0, constN := n.toNat, interval := i.toNat }
    | none => none
  | _ => none

/-- The 4 characters of a breakpoint. -/
def Breakpoint.bytes (p : Breakpoint) : List Byte := be16 p.lum ++ be16 p.demand

/-- The breakpoint that 4 characters carry, if it is in range (R59). -/
def Breakpoint.parse : List Byte → Option Breakpoint
  | [l1, l0, d1, d0] => checked Breakpoint.inRange ⟨nat16 l1 l0, nat16 d1 d0⟩
  | _ => none

/-- The breakpoint count and the breakpoints of a curve (R68). -/
def curveBytes (c : List Breakpoint) : List Byte := u8 c.length :: c.flatMap Breakpoint.bytes

/-- The curve that a count and that many breakpoints carry, with no character left over (R59). -/
def parseCurve : List Byte → Option (List Breakpoint)
  | [] => none
  | m :: rest =>
    if 2 ≤ m.toNat ∧ m.toNat ≤ 12 ∧ rest.length = 4 * m.toNat then
      allSome ((chunks 4 m.toNat rest).map Breakpoint.parse)
    else none

/-- The 13 characters of a zone record. -/
def ZoneRecord.bytes (r : ZoneRecord) : List Byte :=
  [u8 r.kind.code, u8 (zonePortalCode r.portal)] ++ be16 r.factor ++ be16 r.floor ++ be16 r.ceiling ++ be16 r.rise
    ++ be16 r.fall ++ [u8 (switchCode r.compensation)]

/-- The zone record that 13 characters carry, if every field is in range (R60). -/
def ZoneRecord.parse : List Byte → Option ZoneRecord
  | [k, p, f1, f0, a1, a0, b1, b0, c1, c0, d1, d0, e] =>
    match ZoneKind.ofCode k.toNat, zonePortalOfCode p.toNat, switchOfCode e.toNat with
    | some kind, some portal, some comp =>
      checked ZoneRecord.inRange
        { kind := kind, portal := portal, factor := nat16 f1 f0, floor := nat16 a1 a0, ceiling := nat16 b1 b0,
          rise := nat16 c1 c0, fall := nat16 d1 d0, compensation := comp }
    | _, _, _ => none
  | _ => none

/-- Character 2 of a channel record: bit 7 polarity, bit 6 alignment, bit 5 trip level, bit 4 fault sense, bit 0 the
highest bit of the cutoff (R204, R205). -/
def ChannelRecord.codeByte (r : ChannelRecord) : Byte :=
  u8 ((if r.polarity = .activeLow then 128 else 0) + (if r.alignment = .trailing then 64 else 0)
    + (if r.trip = .dark then 32 else 0) + (if r.sense then 16 else 0) + r.cutoff / 256)

/-- The 7 characters of a channel record. -/
def ChannelRecord.bytes (r : ChannelRecord) : List Byte :=
  [u8 (channelZoneCode r.zone), r.codeByte, u8 r.cutoff] ++ be16 r.lo ++ be16 r.hi

/-- The channel record that 7 characters carry, if every field is in range and bits 3 to 1 of character 2 are 0 (R60,
R205). -/
def ChannelRecord.parse : List Byte → Option ChannelRecord
  | [z, k, c, l1, l0, h1, h0] =>
    match channelZoneOfCode z.toNat with
    | some zone =>
      if k.toNat / 2 % 8 = 0 then
        checked ChannelRecord.inRange
          { zone := zone, cutoff := k.toNat % 2 * 256 + c.toNat, lo := nat16 l1 l0, hi := nat16 h1 h0,
            polarity := if 128 ≤ k.toNat then .activeLow else .activeHigh
            alignment := if 1 ≤ k.toNat / 64 % 2 then .trailing else .leading
            trip := if 1 ≤ k.toNat / 32 % 2 then .dark else .full
            sense := 1 ≤ k.toNat / 16 % 2 }
      else none
    | none => none
  | _ => none

/-! ### Frames (R186, R189) -/

/-- The modulo-256 sum of characters. -/
def charSum (l : List Byte) : Byte := l.foldr (· + ·) 0

/-- The CHECK that makes the sum of a frame 0. -/
def checkOf (l : List Byte) : Byte := -charSum l

/-- The frame of an address character and a body: address, LEN, body, CHECK. -/
def frameOf (address : Byte) (body : List Byte) : List Byte :=
  let open_ := address :: u8 body.length :: body
  open_ ++ [checkOf open_]

/-! ### Request kinds (R193) -/

/-- The listed request kinds. -/
inductive Kind
  | report
  | readPortals
  | readZones
  | readChannels
  | readClaims
  | readPart
  | claim
  | release
  | withdraw
  | setDirection
  | clearFire
  | clearTrip
  | ackEvents
  | clearFaults
  | clearCounts
  | planRead
  | draftLoad
  | draftPut
  | adopt
  | save
deriving DecidableEq, Repr

/-- The code of a request kind. -/
def Kind.code : Kind → Byte
  | .report => 0x01
  | .readPortals => 0x02
  | .readZones => 0x03
  | .readChannels => 0x04
  | .readClaims => 0x05
  | .readPart => 0x06
  | .claim => 0x11
  | .release => 0x12
  | .withdraw => 0x13
  | .setDirection => 0x21
  | .clearFire => 0x22
  | .clearTrip => 0x23
  | .ackEvents => 0x24
  | .clearFaults => 0x25
  | .clearCounts => 0x26
  | .planRead => 0x31
  | .draftLoad => 0x32
  | .draftPut => 0x33
  | .adopt => 0x34
  | .save => 0x35

/-- Every listed request kind. -/
def Kind.all : List Kind :=
  [.report, .readPortals, .readZones, .readChannels, .readClaims, .readPart, .claim, .release, .withdraw, .setDirection,
    .clearFire, .clearTrip, .ackEvents, .clearFaults, .clearCounts, .planRead, .draftLoad, .draftPut, .adopt, .save]

/-- The request kind of a code, if it is listed. -/
def Kind.ofCode (b : Byte) : Option Kind := Kind.all.find? fun k => k.code == b

/-- Whether a line may send a kind (11_requests_and_replies, the request table; R193). -/
def Kind.allowed (k : Kind) (l : Line) : Bool :=
  match k with
  | .report => l != .s
  | .claim => true
  | .release => true
  | .readZones => true
  | .readPortals => true
  | .readChannels => true
  | .readClaims => true
  | .readPart => true
  | .withdraw => l == .s
  | .setDirection => l == .s
  | .clearFire => l == .s
  | .clearTrip => l == .s
  | .ackEvents => l == .s
  | .clearFaults => l == .s
  | .clearCounts => l == .s
  | .planRead => l == .s
  | .draftLoad => l == .s
  | .draftPut => l == .s
  | .adopt => l == .s
  | .save => l == .s

/-! ### Result codes (R195) -/

/-- The result codes. -/
inductive Result
  | done
  | accepted
  | notUsed
  | refusedLine
  | refusedZone
  | badKind
  | badField
  | tableFull
  | notHeld
  | planInvalid
  | storeBusy
  | inputActive
deriving DecidableEq, Repr

/-- The number of a result code. -/
def Result.code : Result → Byte
  | .done => 0
  | .accepted => 1
  | .notUsed => 2
  | .refusedLine => 3
  | .refusedZone => 4
  | .badKind => 5
  | .badField => 6
  | .tableFull => 7
  | .notHeld => 8
  | .planInvalid => 9
  | .storeBusy => 10
  | .inputActive => 11

/-- What an owner returns for a request: a result code and a payload (R194). -/
structure Answer where
  result : Result
  payload : List Byte
deriving DecidableEq, Repr

/-- An answer without payload. -/
def Answer.plain (r : Result) : Answer := ⟨r, []⟩

/-- The reply body: reply kind, result code, payload (R194). -/
def Answer.body (kind : Byte) (a : Answer) : List Byte := (kind + 0x80) :: a.result.code :: a.payload

end Sys2Proof.Machine
end

