-- ==== Sys2Proof/Machine/Portals.lean ====
section
/-! DEFINITION. The portal units (01_portal_luminance): the tick, the hold timer's expiry, station reports, local
samples, what they report. -/

namespace Sys2Proof.Machine

/-! ### Ticks -/

/-- Step 1 of the age check: the working copies are taken from the running plan (R13). -/
def PortalUnit.takeCopies (r : PortalRecord) (u : PortalUnit) : PortalUnit :=
  { u with life := r.sampleLife, holdTime := r.holdTime, defaultLum := r.defaultLum }

/-- Whether an arrival time is older than the working sample life (R1, R13). -/
def PortalUnit.tooOld (u : PortalUnit) (t : BitVec 24) : Bool := 10 * u.life < u.age t

/-- The age check (R13, R19, R22): working copies, then samples from the oldest end, then the station mark. -/
def PortalUnit.ageCheck (r : PortalRecord) (u : PortalUnit) : PortalUnit :=
  let u1 := u.takeCopies r
  let u2 := u1.keep (u1.window.dropWhile fun x => u1.tooOld x.arrival)
  ({ u2 with mark := u2.mark.filter fun t => !u1.tooOld t }).derive

/-- The hold timer counts down by one if it is running; at 0 it stops and the portal goes to DEFAULT (R14, R23). -/
def PortalUnit.countDown (u : PortalUnit) : PortalUnit :=
  match u.holdTimer with
  | none => u
  | some c =>
    if c ≤ 1 then ({ u with holdTimer := none, state := .fallback }).derive else { u with holdTimer := some (c - 1) }

/-- The time base advances by one (R1). -/
def PortalUnit.advance (u : PortalUnit) : PortalUnit := { u with timeBase := u.timeBase + 1, tickPhase := 0 }

/-- One tick: the time base advances, then the age check, then the hold timer's countdown, unless the age check of this
tick started the timer (R1, R13, R14). -/
def PortalUnit.tick (r : PortalRecord) (u : PortalUnit) : PortalUnit :=
  let checked := u.advance.ageCheck r
  if !u.window.isEmpty && checked.window.isEmpty then checked else checked.countDown

/-- `n` ticks, one after another. -/
def PortalUnit.ticks (r : PortalRecord) : Nat → PortalUnit → PortalUnit
  | 0, u => u
  | n + 1, u => PortalUnit.ticks r n (u.tick r)

/-- TICK of portal unit `p` in a started part. -/
def State.tickPortal (s : State) (p : Portal) : State :=
  s.setPortal p ((s.portals.get p).tick (s.plans.running.portals.get p))

/-- TICK (R1). -/
def execTick (p : Portal) (s : State) : Host.Outcome State Fault Refusal :=
  .next (if s.started then s.tickPortal p else s)

/-- The ticks up to and with the one at which a running hold timer reaches 0. -/
def PortalUnit.ticksToExpiry (u : PortalUnit) : Nat :=
  match u.holdTimer with
  | none => 0
  | some c => max 1 c

/-- HOLD_TIMER_EXPIRY (R14): the expiry is part of the tick at which the count reaches 0, so the command carries the
ticks up to that one. A stopped timer does not expire. [log 7] -/
def execHoldTimerExpiry (p : Portal) (s : State) : Host.Outcome State Fault Refusal :=
  let u := s.portals.get p
  .next (if s.started then s.setPortal p (u.ticks (s.plans.running.portals.get p) u.ticksToExpiry) else s)

/-! ### Station reports -/

/-- A GOOD or DEGRADED report at the unit: the mark is set; the figure, at most 9999, is entered unless the source mode
is LOCAL (R4, R5). -/
def PortalUnit.usableReport (u : PortalUnit) (mode : SourceMode) (lum : Nat) (q : Quality) : PortalUnit × Result :=
  let marked := { u with mark := some u.timeBase }
  if mode = .localOnly then (marked, .notUsed) else (marked.enter (min 9999 lum) .station q, .done)

/-- An INVALID report at the unit: every STATION sample is purged and the mark becomes absent (R6). -/
def PortalUnit.invalidReport (u : PortalUnit) : PortalUnit × Result :=
  ({ u.keep (u.window.filter fun x => x.source != .station) with mark := none }, .done)

/-- A report's fields at the unit (R4 to R6, R196). -/
def PortalUnit.report (u : PortalUnit) (mode : SourceMode) (fields : List Byte) : PortalUnit × Result :=
  match fields with
  | [h, l, q] =>
    if q = 0 then u.usableReport mode (nat16 h l) .good
    else if q = 1 then u.usableReport mode (nat16 h l) .degraded
    else if q = 2 then u.invalidReport
    else (u, .badField)
  | _ => (u, .badField)

/-- The code of a portal state (R197). -/
def PortalState.code : PortalState → Byte
  | .noData => 0
  | .live => 1
  | .hold => 2
  | .fallback => 3

/-- The four figures of portal `p`, as in the REPORT reply (R8, R197). -/
def State.portalFigures (s : State) (p : Portal) : List Byte :=
  let u := s.portals.get p
  [u.state.code] ++ be16 u.effLum ++ be16 (s.demand p) ++ [u8 u.window.length]

/-- REPORT at its owner (R4, R8). A report on Line S has no portal unit: it is turned away before this (R193, R187). -/
def takeReport (l : Line) (fields : List Byte) (s : State) : State × Answer :=
  match l.portal with
  | none => (s, .plain .refusedLine)
  | some p =>
    let x := (s.portals.get p).report (s.plans.running.portals.get p).mode fields
    let s' := s.setPortal p x.1
    (s', ⟨x.2, s'.portalFigures p⟩)

/-! ### Local samples -/

/-- Whether a local sample is entered: in LOCAL mode, and in STATION_FALLBACK while the station is not fresh (R10). -/
def PortalUnit.takesLocal (u : PortalUnit) (mode : SourceMode) : Bool :=
  match mode with
  | .localOnly => true
  | .stationFallback => u.mark.isNone
  | .station => false

/-- A local sample at the unit: recorded as the last local sample, then entered or discarded (R10). -/
def PortalUnit.localSample (u : PortalUnit) (mode : SourceMode) (lum : Nat) : PortalUnit :=
  let u1 := { u with lastLocal := some lum }
  if u1.takesLocal mode then u1.enter lum .photometer .good else u1

/-! ### READ PORTALS -/

/-- The code of a measurement state (R198). -/
def MeasureState.code : MeasureState → Byte
  | .off => 0
  | .waiting => 1
  | .armed => 2
  | .counting => 3

/-- The code of health (R198). -/
def Health.code : Health → Byte
  | .ok => 0
  | .lost => 1

/-- The eleven characters of a portal in READ PORTALS (R26, R43, R198). -/
def State.portalEntry (s : State) (p : Portal) : List Byte :=
  let u := s.portals.get p
  let m := s.photometers.get p
  s.portalFigures p ++ [flag u.mark.isSome, m.state.code, m.health.code] ++ be16 (u.lastLocal.getD 0xFFFF)

/-- READ PORTALS at its owner (R198). -/
def takeReadPortals (_l : Line) (fields : List Byte) (s : State) : State × Answer :=
  if fields = [] then (s, ⟨.done, s.portalEntry .a ++ s.portalEntry .b⟩) else (s, .plain .badField)

end Sys2Proof.Machine
end

