-- ==== Sys2Proof/Machine/Photometers.lean ====
section
/-! DEFINITION. The photometers (02_local_photometer_capture): arming, edges, timeouts, conversion, adoption.
What the edge that completes a measurement hands over is taken in Machine/Arrivals.lean. -/

namespace Sys2Proof.Machine

/-- `k` capture clocks without a detected edge in the sampling history of PHIN (R30). [log 12] -/
def Photometer.passClocks (k : Nat) (m : Photometer) : Photometer := { m with sinceEdge := min 2 (m.sinceEdge + k) }

/-- The capture clocks that a commanded expiry of the interval timer carries into the sampling history (R28, R30): with
`left` clocks of 16 MHz up to the expiry, floor((left - 1) / 16), so none where the clock has brought the timer to its last
count. DESIGN CHOICE, unsafe: the spec has no expiry before the count ends, and the model counts neither by the divider nor
the capture clock of the expiry itself. [log 6, log 12, log 29] -/
def Photometer.clocksToExpiry (m : Photometer) : Nat :=
  match m.interval with
  | none => 0
  | some t => (t * Config.clocksPerMs - 1 - m.msPhase) / Config.clocksPerUs

/-- The interval timer expires: it is loaded again with the interval of the running plan, and a WAITING photometer arms
with the S and n of the running plan; in ARMED and COUNTING the expiry is skipped (R28, R29). A WAITING photometer, which
counts no clocks itself, carries in its sampling history those that lay before the expiry, so that an edge taken after the
arming of its moment is seen in ARMED (R30). [log 12, log 29] -/
def Photometer.intervalExpiry (r : PortalRecord) (m : Photometer) : Photometer :=
  match m.state with
  | .off => m
  | .waiting =>
    { m.passClocks m.clocksToExpiry with
      interval := some (1000 * r.interval), msPhase := 0, state := .armed, constS := r.constS, constN := r.constN,
      edgeWindow := 0, captureCount := 0, edgeCount := 0 }
  | .armed => { m with interval := some (1000 * r.interval), msPhase := 0 }
  | .counting => { m with interval := some (1000 * r.interval), msPhase := 0 }

/-- A measurement times out (R35, R37). -/
def Photometer.timeOut (m : Photometer) : Photometer :=
  { m with timeouts := min 4 (m.timeouts + 1), health := if 4 ≤ m.timeouts + 1 then .lost else m.health,
           edgeWindow := 0, captureCount := 0, edgeCount := 0, state := .waiting }

/-- A measurement completes (R36). -/
def Photometer.complete (m : Photometer) : Photometer :=
  { m with timeouts := 0, health := .ok, edgeWindow := 0, captureCount := 0, edgeCount := 0, state := .waiting }

/-- The conversion of a count `c` (R34): floor(S × n / C), at most 9999. -/
def Photometer.convert (m : Photometer) (c : Nat) : Nat := min 9999 (m.constS * m.constN / c)

/-- `k` capture clocks pass, at the last of which a rising edge is detected if a low sample can have come since the edge
before it, that is at least two clocks after it (R30). What each clock and the edge do is R31, R32, R33. The second
part of the result is the figure handed over by a completed measurement (R36). [log 12] -/
def Photometer.edge (k : Nat) (m : Photometer) : Photometer × Option Nat :=
  let detected : Bool := 2 ≤ m.sinceEdge + k
  let m1 := { m with sinceEdge := if detected then 0 else m.sinceEdge + k }
  match m.state with
  | .off => (m1, none)
  | .waiting => (m1, none)
  | .armed =>
    let w := m.edgeWindow + k
    if detected && w ≤ Config.captureLimit then
      ({ m1 with state := .counting, edgeWindow := 0, captureCount := 0, edgeCount := 0 }, none)
    else if w < Config.captureLimit then ({ m1 with edgeWindow := w }, none)
    else (m1.timeOut, none)
  | .counting =>
    let c := m.captureCount + k
    if Config.captureLimit ≤ c then (m1.timeOut, none)
    else if !detected then ({ m1 with captureCount := c }, none)
    else if m.constN ≤ m.edgeCount + 1 then (m1.complete, some (m.convert c))
    else ({ m1 with captureCount := c, edgeCount := m.edgeCount + 1 }, none)

/-- A photometer meets a new running plan: into OFF, out of OFF, or unchanged (R39, R40, R41). -/
def Photometer.adopt (r : PortalRecord) (m : Photometer) : Photometer :=
  if r.photometerOff then
    { m with state := .off, interval := none, msPhase := 0, edgeWindow := 0, captureCount := 0, edgeCount := 0,
             timeouts := 0, health := .ok }
  else if m.state = .off then
    { m with state := .waiting, interval := some (1000 * r.interval), msPhase := 0, timeouts := 0, health := .ok }
  else m

/-- INTERVAL_TIMER_EXPIRY (R28, R29). -/
def execIntervalTimerExpiry (p : Portal) (s : State) : Host.Outcome State Fault Refusal :=
  .next
    (if s.started then
      s.setPhotometer p ((s.photometers.get p).intervalExpiry (s.plans.running.portals.get p))
    else s)

/-- FIRST_EDGE_TIMEOUT (R31, R35): it falls in ARMED alone, and carries the capture clocks up to it. [log 6] -/
def execFirstEdgeTimeout (p : Portal) (s : State) : Host.Outcome State Fault Refusal :=
  let m := s.photometers.get p
  .next
    (if s.started && m.state == .armed then
      s.setPhotometer p (m.passClocks (Config.captureLimit - m.edgeWindow)).timeOut
    else s)

/-- COUNT_OVERFLOW_TIMEOUT (R33, R35): it falls in COUNTING alone, and carries the capture clocks up to it. [log 6] -/
def execCountOverflowTimeout (p : Portal) (s : State) : Host.Outcome State Fault Refusal :=
  let m := s.photometers.get p
  .next
    (if s.started && m.state == .counting then
      s.setPhotometer p (m.passClocks (Config.captureLimit - m.captureCount)).timeOut
    else s)

end Sys2Proof.Machine
end

