-- ==== Sys2Proof/Machine/PlanMemory.lean ====
section
/-! DEFINITION. Plan memory (03_the_lighting_plan): DRAFT LOAD, DRAFT PUT, PLAN READ, ADOPT and what an adoption does to
every block. -/

namespace Sys2Proof.Machine

/-! ### DRAFT LOAD -/

/-- DRAFT LOAD at its owner: the draft becomes a copy of the running plan (R55). -/
def takeDraftLoad (_l : Line) (fields : List Byte) (s : State) : State × Answer :=
  if fields = [] then ({ s with plans := { s.plans with draft := s.plans.running } }, .plain .done)
  else (s, .plain .badField)

/-! ### DRAFT PUT -/

/-- `l` with the pieces of `new` in place of its elements from index `i` on. -/
def splice {α : Type} (l : List α) (i : Nat) (new : List α) : List α :=
  l.take i ++ new ++ l.drop (i + new.length)

/-- Section GENERAL (R57). -/
def putGeneral (d : Plan) (body : List Byte) : Option Plan :=
  (General.parse body).map fun g => { d with general := g }

/-- Section PORTAL: the record alone, not the curve (R58). -/
def putPortal (d : Plan) (body : List Byte) : Option Plan :=
  match body with
  | [] => none
  | sel :: record =>
    match portalOfCode sel.toNat, PortalRecord.parse record with
    | some p, some r => some { d with portals := d.portals.set p r }
    | _, _ => none

/-- Section CURVE: the whole curve (R59). -/
def putCurve (d : Plan) (body : List Byte) : Option Plan :=
  match body with
  | [] => none
  | sel :: curve =>
    match portalOfCode sel.toNat, parseCurve curve with
    | some p, some c => some { d with curves := d.curves.set p c }
    | _, _ => none

/-- Section ZONE: one zone record (R60). -/
def putZone (d : Plan) (body : List Byte) : Option Plan :=
  match body with
  | [] => none
  | z :: record =>
    if 11 < z.toNat then none
    else (ZoneRecord.parse record).map fun r => { d with zones := splice d.zones z.toNat [r] }

/-- Section CHANNELS: a first channel, a count of 1 to 8, that many channel records (R60). -/
def putChannels (d : Plan) (body : List Byte) : Option Plan :=
  match body with
  | first :: count :: records =>
    if first.toNat ≤ 31 ∧ 1 ≤ count.toNat ∧ count.toNat ≤ 8 ∧ first.toNat + count.toNat ≤ 32
        ∧ records.length = 7 * count.toNat then
      (allSome ((chunks 7 count.toNat records).map ChannelRecord.parse)).map fun rs =>
        { d with channels := splice d.channels first.toNat rs }
    else none
  | _ => none

/-- The draft after a put with these fields, or `none` if a check fails (R51, R56). -/
def putSection (d : Plan) (fields : List Byte) : Option Plan :=
  match fields with
  | [] => none
  | sec :: body =>
    match sec.toNat with
    | 0 => putGeneral d body
    | 1 => putPortal d body
    | 2 => putCurve d body
    | 3 => putZone d body
    | 4 => putChannels d body
    | _ => none

/-- DRAFT PUT at its owner (R56). -/
def takeDraftPut (_l : Line) (fields : List Byte) (s : State) : State × Answer :=
  match putSection s.plans.draft fields with
  | some d => ({ s with plans := { s.plans with draft := d } }, .plain .done)
  | none => (s, .plain .badField)

/-! ### PLAN READ -/

/-- The payload of one section of a plan, or `none` for an unlisted section or an index out of range (R68). -/
def readSection (p : Plan) (sec index : Nat) : Option (List Byte) :=
  match sec with
  | 0 => if index = 0 then some p.general.bytes else none
  | 1 => (portalOfCode index).map fun x => (p.portals.get x).bytes
  | 2 => (portalOfCode index).map fun x => curveBytes (p.curves.get x)
  | 3 => if index ≤ 11 then (p.zones[index]?).map ZoneRecord.bytes else none
  | 4 => if index ≤ 31 then (p.channels[index]?).map ChannelRecord.bytes else none
  | _ => none

/-- The plan of a selector: RUNNING 0, DRAFT 1 (R50). -/
def PlanMemory.select (m : PlanMemory) : Nat → Option Plan
  | 0 => some m.running
  | 1 => some m.draft
  | _ => none

/-- PLAN READ at its owner (R68). -/
def takePlanRead (_l : Line) (fields : List Byte) (s : State) : State × Answer :=
  match fields with
  | [sel, sec, index] =>
    match (s.plans.select sel.toNat).bind fun p => readSection p sec.toNat index.toNat with
    | some payload => (s, ⟨.done, payload⟩)
    | none => (s, .plain .badField)
  | _ => (s, .plain .badField)

/-! ### ADOPT -/

/-- The seeding mark is set where the kind or the portal of the zone differs between the two plans (R119). -/
def ZoneLevel.adopt (old new : ZoneRecord) (z : ZoneLevel) : ZoneLevel :=
  if old.kind = new.kind ∧ old.portal = new.portal then z else { z with seeding := true }

/-- A channel whose zone changed, or whose fault sense went from ON to OFF, returns to CLEAR (R177). -/
def FaultRecord.adopt (old new : ChannelRecord) (f : FaultRecord) : FaultRecord :=
  if old.zone ≠ new.zone ∨ (old.sense = true ∧ new.sense = false) then FaultRecord.initial else f

/-- An adoption: the draft becomes the running plan and each block responds (R64, R67). -/
def State.adoptDraft (s : State) : State :=
  let old := s.plans.running
  let new := s.plans.draft
  { s with
    plans := { s.plans with running := new }
    photometers := ⟨s.photometers.a.adopt new.portals.a, s.photometers.b.adopt new.portals.b⟩
    engine := { s.engine with
      zones := List.zipWith (fun r z => ZoneLevel.adopt r.1 r.2 z) (old.zones.zip new.zones) s.engine.zones }
    faults := List.zipWith (fun r f => FaultRecord.adopt r.1 r.2 f) (old.channels.zip new.channels) s.faults }

/-- ADOPT at its owner (R64, R65). -/
def takeAdopt (_l : Line) (fields : List Byte) (s : State) : State × Answer :=
  if fields = [] then
    match s.plans.draft.firstFailure with
    | none => (s.adoptDraft, .plain .done)
    | some f => (s, ⟨.planInvalid, [u8 f.sectionCode, u8 f.record, u8 f.reason]⟩)
  else (s, .plain .badField)

end Sys2Proof.Machine
end

