-- ==== Sys2Proof/Machine/Flags.lean ====
section
/-! DEFINITION. The flags: the five flags of a zone at each stage of its target (04_zone_targets) with their character
in READ ZONES, and the seen flags of the safety inputs. -/

namespace Sys2Proof.Machine

/-- Compensated: set when stage 5 applies, 0 < k < n with compensation ON (R83). -/
def compensates (r : ZoneRecord) (n k : Nat) : Bool := r.compensation && 0 < k && k < n

/-- Forced: a FORCE level is present (R86). -/
def flagForced (m : Summary) : Bool := m.force.isSome

/-- Claimed cap: no FORCE level, and C below the target entering stage 7 (R87). -/
def flagClaimedCap (m : Summary) (t : Nat) : Bool := m.force.isNone && m.cap < t

/-- Claimed floor: no FORCE level, and F above the lesser of the target entering stage 7 and C (R87). -/
def flagClaimedFloor (m : Summary) (t : Nat) : Bool := m.force.isNone && min t m.cap < m.floor

/-- Capped by backup: BACKUP active, fire latch clear, and the cap lowers the target (R88). -/
def flagCapped (backup latch : Bool) (cap t : Nat) : Bool := backup && !latch && cap < t

/-- Character 1 of a READ ZONES entry: the flags in bits 7 to 3, the two highest bits of the target in bits 1 and 0
(R206). -/
def ZoneFlags.byte (f : ZoneFlags) (target : Nat) : Byte :=
  u8 ((if f.claimedFloor then 128 else 0) + (if f.claimedCap then 64 else 0) + (if f.forced then 32 else 0)
    + (if f.compensated then 16 else 0) + (if f.capped then 8 else 0) + target / 256)

/-- The seen flags with those of the listed codes cleared: FIRE 0, BACKUP 1, TRIP 2 (R144). -/
def SafetyInputs.acknowledge (x : SafetyInputs) (codes : List Byte) : SafetyInputs :=
  { x with
    seenFire := x.seenFire && !codes.contains 0
    seenBackup := x.seenBackup && !codes.contains 1
    seenTrip := x.seenTrip && !codes.contains 2 }

end Sys2Proof.Machine
end

