-- ==== Sys2Proof/Machine/Zones.lean ====
section
/-! DEFINITION. The zone level engine (04_zone_targets, 06_applied_levels_and_ramping): the level pass with its stages 4
to 10, SET DIRECTION, READ ZONES. -/

namespace Sys2Proof.Machine

/-! ### Entrance set, day and night -/

/-- Whether portal `p` is in the entrance set (R76). -/
def Direction.isEntrance (d : Direction) (p : Portal) : Bool :=
  match d with
  | .both => true
  | .aIn => p == .a
  | .bIn => p == .b
  | .closed => false

/-- The portals of the entrance set (R76). -/
def Direction.entrances (d : Direction) : List Portal := [Portal.a, Portal.b].filter d.isEntrance

/-- The day/night state settled at a pass, from the effective luminances (R79). -/
def settleDayNight (g : General) (d : Direction) (lum : PerPortal Nat) (now : DayNight) : DayNight :=
  if d = .closed then now
  else
    match now with
    | .day => if d.entrances.all fun p => lum.get p < g.nightThreshold then .night else .day
    | .night => if d.entrances.any fun p => g.nightThreshold + g.nightBand ≤ lum.get p then .day else .night

/-- The interior level of a pass (R80). -/
def interiorLevel (g : General) (n : DayNight) : Nat :=
  match n with
  | .day => g.dayLevel
  | .night => g.nightLevel

/-! ### The stages of a zone's target -/

/-- The snapshot a level pass takes (R71). -/
structure PassView where
  plan : Plan
  direction : Direction
  interior : Nat
  demand : PerPortal Nat
  table : List Claim
  faults : List FaultRecord
  latch : Bool
  backup : Bool
deriving DecidableEq, Repr

/-- The demand of a zone's portal through its factor: ceil(demand(P) × factor / 1000) (R81). -/
def PassView.portalLevel (v : PassView) (r : ZoneRecord) : Nat :=
  match r.portal with
  | some p => ceilDiv (v.demand.get p * r.factor) 1000
  | none => 0

/-- Whether the zone's portal is an entrance (R76, R81). -/
def PassView.atEntrance (v : PassView) (r : ZoneRecord) : Bool :=
  match r.portal with
  | some p => v.direction.isEntrance p
  | none => false

/-- Stage 4, the base target (R81). -/
def PassView.baseTarget (v : PassView) (r : ZoneRecord) : Nat :=
  match r.kind with
  | .unused => 0
  | .interior => if v.direction = .closed then v.plan.general.closedLevel else v.interior
  | .threshold =>
    if v.direction = .closed then v.plan.general.closedLevel
    else if v.atEntrance r then v.portalLevel r
    else v.interior
  | .transition =>
    if v.direction = .closed then v.plan.general.closedLevel
    else if v.atEntrance r then v.portalLevel r
    else v.interior
  | .exit =>
    if v.direction = .closed then v.plan.general.closedLevel
    else if v.atEntrance r then v.interior
    else max v.interior (v.portalLevel r)

/-- Stage 5, compensation: n channels bound to the zone, k of them FAULTED (R83). -/
def compensate (r : ZoneRecord) (n k t : Nat) : Nat :=
  if compensates r n k then min 1000 (ceilDiv (t * n) (n - k)) else t

/-- Stage 6, the plan clamp (R85). -/
def planClamp (r : ZoneRecord) (t : Nat) : Nat := if t < r.floor then r.floor else if r.ceiling < t then r.ceiling else t

/-- Stage 7, the claim summary (R86). -/
def applySummary (m : Summary) (t : Nat) : Nat :=
  match m.force with
  | some f => f
  | none => max m.floor (min (max t m.floor) m.cap)

/-- Stage 8, the backup cap (R88). -/
def backupCapped (backup latch : Bool) (cap t : Nat) : Nat := if backup && !latch then min t cap else t

/-- Stage 9, the fire level (R89). -/
def fireLevelled (latch : Bool) (level t : Nat) : Nat := if latch then level else t

/-- The target entering stage 7: base target, compensated, clamped (R81, R83, R85). -/
def PassView.planTarget (v : PassView) (z : Nat) (r : ZoneRecord) : Nat :=
  planClamp r (compensate r (v.plan.channelCount z) (faultCount v.plan v.faults z) (v.baseTarget r))

/-- The target of zone `z` after stages 4 to 9; an UNUSED zone stops at stage 4 with 0 (R82, R91). -/
def PassView.target (v : PassView) (z : Nat) (r : ZoneRecord) : Nat :=
  if r.kind = .unused then 0
  else
    fireLevelled v.latch v.plan.general.fireLevel
      (backupCapped v.backup v.latch v.plan.general.backupCap
        (applySummary (summaryOf v.plan v.table z) (v.planTarget z r)))

/-- The flags of zone `z` after stages 4 to 9 (R82, R83, R86, R87, R88). -/
def PassView.flags (v : PassView) (z : Nat) (r : ZoneRecord) : ZoneFlags :=
  if r.kind = .unused then ZoneFlags.clear
  else
    let m := summaryOf v.plan v.table z
    let t := v.planTarget z r
    { claimedFloor := flagClaimedFloor m t
      claimedCap := flagClaimedCap m t
      forced := flagForced m
      compensated := compensates r (v.plan.channelCount z) (faultCount v.plan v.faults z)
      capped := flagCapped v.backup v.latch v.plan.general.backupCap (applySummary m t) }

/-! ### Stage 10, the applied level -/

/-- The new applied level: the first case of R116 that applies. -/
def stepApplied (seeding latch backup : Bool) (cap rise fall target applied : Nat) : Nat :=
  if seeding then target
  else if latch then target
  else if backup && cap < applied then target
  else if applied < target then min target (applied + rise)
  else if target < applied then max target (applied - fall)
  else applied

/-- The zone level record of zone `z` after a pass (R72, R116, R120). -/
def PassView.zonePass (v : PassView) (z : Nat) (r : ZoneRecord) (x : ZoneLevel) : ZoneLevel :=
  let t := v.target z r
  { target := t
    applied := stepApplied x.seeding v.latch v.backup v.plan.general.backupCap r.rise r.fall t x.applied
    seeding := false
    flags := v.flags z r }

/-- The zone level records after a pass, zone by zone. -/
def PassView.zonesPass (v : PassView) (zones : List ZoneLevel) : List ZoneLevel :=
  List.zipWith (fun r x => v.zonePass r.2 r.1 x) v.plan.zones.zipIdx zones

/-- The level preload of a channel: its zone's applied level, 0 if it is unbound (R128). -/
def preloadFor (zones : List ZoneLevel) (r : ChannelRecord) : Nat :=
  match r.zone with
  | some z => ((zones[z]?).map ZoneLevel.applied).getD 0
  | none => 0

/-- Every channel with its level preload written (R128). -/
def writePreloads (zones : List ZoneLevel) (records : List ChannelRecord) (chans : List ChannelOut) : List ChannelOut :=
  List.zipWith (fun r c => { c with preload := preloadFor zones r }) records chans

/-- The effective luminances of the two portals. -/
def State.luminances (s : State) : PerPortal Nat := ⟨s.portals.a.effLum, s.portals.b.effLum⟩

/-- The day/night state this pass settles (R79). -/
def State.settledDayNight (s : State) : DayNight :=
  settleDayNight s.plans.running.general s.engine.direction s.luminances s.engine.dayNight

/-- The snapshot of a level pass (R71, R74, R80). -/
def State.passView (s : State) : PassView :=
  { plan := s.plans.running
    direction := s.engine.direction
    interior := interiorLevel s.plans.running.general s.settledDayNight
    demand := ⟨s.demand .a, s.demand .b⟩
    table := s.claims.table
    faults := s.faults
    latch := s.safety.latch
    backup := s.safety.backup.asserted }

/-- A level pass: the timer is loaded again, the day/night state settled, every zone computed and stepped, every preload
written, the first levels mark set (R70, R71, R128, R152). -/
def State.passed (s : State) : State :=
  let zones := s.passView.zonesPass s.engine.zones
  { s with
    engine := { s.engine with
      passTimer := s.plans.running.general.passPeriod, passPhase := 0, dayNight := s.settledDayNight, zones := zones }
    stage := { s.stage with
      chans := writePreloads zones s.plans.running.channels s.stage.chans, firstLevels := true } }

/-- LEVEL_PASS (R70, R71): the pass timer expires. [log 6] -/
def execLevelPass (s : State) : Host.Outcome State Fault Refusal := .next (if s.started then s.passed else s)

/-! ### Requests -/

/-- SET DIRECTION at its owner, with its line check for broadcasts (R77). -/
def takeSetDirection (l : Line) (fields : List Byte) (s : State) : State × Answer :=
  if l ≠ .s then (s, .plain .refusedLine)
  else
    match fields with
    | [d] =>
      match Direction.ofCode d.toNat with
      | some dir => ({ s with engine := { s.engine with direction := dir } }, .plain .done)
      | none => (s, .plain .badField)
    | _ => (s, .plain .badField)

/-- The combined zone code of R206. (A running plan names a portal in every zone of a kind that needs one, R48.) -/
def ZoneRecord.zoneCode (r : ZoneRecord) : Nat :=
  match r.kind, r.portal with
  | .unused, _ => 0
  | .interior, _ => 5
  | .threshold, some .b => 2
  | .threshold, _ => 1
  | .transition, some .b => 4
  | .transition, _ => 3
  | .exit, some .b => 7
  | .exit, _ => 6

/-- Two zone codes to a character (R206). -/
def packCodes : List Nat → List Byte
  | x :: y :: rest => u8 (16 * x + y) :: packCodes rest
  | [x] => [u8 (16 * x)]
  | [] => []

/-- The four characters of a READ ZONES entry (R206). -/
def ZoneLevel.entry (x : ZoneLevel) (faults : Nat) : List Byte :=
  [x.flags.byte x.target, u8 x.target, u8 (4 * faults + x.applied / 256), u8 x.applied]

/-- The entries of the zones in use, in ascending zone number (R92, R199). -/
def State.zoneEntries (s : State) : List Byte :=
  ((s.plans.running.zones.zipIdx.zip s.engine.zones).filter fun x => x.1.1.kind != .unused).flatMap
    fun x => x.2.entry (faultCount s.plans.running s.faults x.1.2)

/-- READ ZONES at its owner (R92, R199, R206). -/
def takeReadZones (_l : Line) (fields : List Byte) (s : State) : State × Answer :=
  if fields = [] then
    (s, ⟨.done, packCodes (s.plans.running.zones.map ZoneRecord.zoneCode) ++ s.zoneEntries⟩)
  else (s, .plain .badField)

end Sys2Proof.Machine
end

