-- ==== Sys2Proof/Machine/Claims.lean ====
section
/-! DEFINITION. The claim table (05_claims): CLAIM, RELEASE, WITHDRAW, the claim check, READ CLAIMS. -/

namespace Sys2Proof.Machine

/-! ### CLAIM -/

/-- The claim kind of a code, if it is listed (R96). -/
def ClaimKind.ofCode : Nat → Option ClaimKind
  | 0 => some .floor
  | 1 => some .cap
  | 2 => some .force
  | _ => none

/-- The code of a claim kind (R96). -/
def ClaimKind.code : ClaimKind → Byte
  | .floor => 0
  | .cap => 1
  | .force => 2

/-- The set of a list of zone numbers (R94). -/
def zoneSet : List Byte → BitVec 12
  | [] => 0
  | z :: rest => BitVec.ofNat 12 (2 ^ z.toNat) ||| zoneSet rest

/-- Checks 1 to 5 of R98 on the fields of a CLAIM from line `l`: the form, the id, the kind and whether the line may use
it, the duration, the zones. The result is the claim as it would be stored, level and duration clamped (R98, R101). -/
def parseClaim (l : Line) (fields : List Byte) : Option Claim :=
  match fields with
  | id :: kind :: l1 :: l0 :: d1 :: d0 :: n :: zones =>
    if n.toNat = zones.length ∧ 1 ≤ n.toNat ∧ n.toNat ≤ 12 ∧ id.toNat ≤ 7 then
      match ClaimKind.ofCode kind.toNat with
      | none => none
      | some k =>
        if (l = .s ∨ (k = .floor ∧ 1 ≤ nat16 d1 d0)) ∧ (zones.all fun z => z.toNat ≤ 11) = true ∧ zones.Nodup then
          some
            { owner := l, id := id.toNat, kind := k, level := min 1000 (nat16 l1 l0), zones := zoneSet zones,
              remaining := if nat16 d1 d0 = 0 then none else some (10 * min 3600 (nat16 d1 d0)) }
        else none
    else none
  | _ => none

/-- The zone permission of check 6: every zone of the set is one the line may claim (R98, R99, R100). -/
def zonesPermitted (plan : Plan) (c : Claim) : Bool :=
  match c.owner.portal with
  | none => true
  | some p => (List.range 12).all fun z => !c.zones.getLsbD z || stationMayClaim p (plan.zone z)

/-- The remaining time as reported: 0 for an indefinite claim (R103, R113, R196). -/
def Claim.time (c : Claim) : Nat := c.remaining.getD 0

/-- A renewal: the claim of the key is replaced in its place (R102). -/
def renewClaim (table : List Claim) (c : Claim) : List Claim :=
  table.map fun x => if x.owner == c.owner && x.id == c.id then c else x

/-- Check 7 of R98: a renewal where the key is held (R102), else a new claim appended, if there is room (R101). -/
def storeClaim (table : List Claim) (c : Claim) : Option (List Claim) :=
  if (heldClaim table c.owner c.id).isSome then some (renewClaim table c)
  else if table.length < Config.tableSize then some (table ++ [c])
  else none

/-- CLAIM at its owner (R98 to R103). -/
def takeClaim (l : Line) (fields : List Byte) (s : State) : State × Answer :=
  match parseClaim l fields with
  | none => (s, .plain .badField)
  | some c =>
    if zonesPermitted s.plans.running c then
      match storeClaim s.claims.table c with
      | some t => (s.setTable t, ⟨.done, be16 c.time⟩)
      | none => (s, .plain .tableFull)
    else (s, .plain .refusedZone)

/-! ### RELEASE and WITHDRAW -/

/-- The claim of a key is removed, or NOT_HELD (R104, R106). -/
def State.takeAway (s : State) (owner : Line) (id : Nat) : State × Answer :=
  if (heldClaim s.claims.table owner id).isSome then
    (s.setTable (removeClaim s.claims.table owner id), .plain .done)
  else (s, .plain .notHeld)

/-- RELEASE at its owner (R104, R105). -/
def takeRelease (l : Line) (fields : List Byte) (s : State) : State × Answer :=
  match fields with
  | [id] =>
    if id.toNat ≤ 7 then s.takeAway l id.toNat
    else if id.toNat = 255 then (s.setTable (s.claims.table.filter fun c => c.owner != l), .plain .done)
    else (s, .plain .badField)
  | _ => (s, .plain .badField)

/-- The line of an owner code (R96). -/
def lineOfCode : Nat → Option Line
  | 0 => some .a
  | 1 => some .b
  | 2 => some .s
  | _ => none

/-- The code of an owner line (R96). -/
def lineCode : Line → Byte
  | .a => 0
  | .b => 1
  | .s => 2

/-- WITHDRAW at its owner (R106). -/
def takeWithdraw (_l : Line) (fields : List Byte) (s : State) : State × Answer :=
  match fields with
  | [owner, id] =>
    match lineOfCode owner.toNat with
    | some o => if id.toNat ≤ 7 then s.takeAway o id.toNat else (s, .plain .badField)
    | none => (s, .plain .badField)
  | _ => (s, .plain .badField)

/-! ### The claim check -/

/-- The remaining time of a claim reduced by one; an indefinite claim is untouched (R107). -/
def Claim.countDown (c : Claim) : Claim := { c with remaining := c.remaining.map fun t => t - 1 }

/-- Whether a claim's remaining time has reached 0 (R107). -/
def Claim.expired (c : Claim) : Bool := c.remaining == some 0

/-- One claim check (R107): every timed claim is reduced by one, then those at 0 leave together. -/
def checkClaims (table : List Claim) : List Claim := (table.map Claim.countDown).filter fun c => !c.expired

/-- `n` claim checks, one after another. -/
def checkClaimsTimes : Nat → List Claim → List Claim
  | 0, t => t
  | n + 1, t => checkClaimsTimes n (checkClaims t)

/-- The checks up to and with the one at which the first timed claim expires; 0 where no claim is timed. -/
def checksToExpiry (table : List Claim) : Nat :=
  match lowest (table.filterMap Claim.remaining) with
  | none => 0
  | some t => max 1 t

/-- CLAIM_CHECK (R107). [log 6] -/
def execClaimCheck (s : State) : Host.Outcome State Fault Refusal :=
  .next (if s.started then { s with claims := ⟨checkClaims s.claims.table, 0⟩ } else s)

/-- CLAIM_EXPIRY (R107): a claim expires at the check at which its remaining time reaches 0, so the command carries the
checks up to that one for the claim that is next to expire. Where no claim is timed none expires. [log 7] -/
def execClaimExpiry (s : State) : Host.Outcome State Fault Refusal :=
  let n := checksToExpiry s.claims.table
  .next (if s.started && n != 0 then { s with claims := ⟨checkClaimsTimes n s.claims.table, 0⟩ } else s)

/-! ### READ CLAIMS -/

/-- The nine characters of a claim (R201). -/
def Claim.entry (c : Claim) : List Byte :=
  [lineCode c.owner, u8 c.id, c.kind.code] ++ be16 c.level ++ be16 c.time ++ be16 c.zones.toNat

/-- READ CLAIMS at its owner (R113, R201). -/
def takeReadClaims (_l : Line) (fields : List Byte) (s : State) : State × Answer :=
  match fields with
  | [start] =>
    if start.toNat ≤ 15 then
      let shown := (s.claims.table.drop start.toNat).take 6
      (s, ⟨.done, [u8 s.claims.table.length, u8 shown.length] ++ shown.flatMap Claim.entry⟩)
    else (s, .plain .badField)
  | _ => (s, .plain .badField)

end Sys2Proof.Machine
end

