-- ==== Sys2Proof/Machine/OutputStage.lean ====
section
/-! DEFINITION. The output stage (08_output_channels) and fault sensing (09_luminaire_fault_sensing): period ends,
refreshes, duties, trips, the sampling of the fault pins, CLEAR TRIP, CLEAR FAULTS, READ CHANNELS. -/

namespace Sys2Proof.Machine

/-! ### Duty (R153, R154) -/

/-- The duty count of a channel from its level, its record and the active period: 0 for level 0 or a level below the
cutoff; else ceil(period × (lo × 1000 + (hi − lo) × level) / 1,000,000), at most the period. The product
period × bracket is formed exactly. -/
def dutyOf (period : Nat) (r : ChannelRecord) (level : Nat) : Nat :=
  if level = 0 ∨ level < r.cutoff then 0
  else min period (ceilDiv (period * (r.lo * 1000 + (r.hi - r.lo) * level)) 1000000)

/-- A channel after a refresh: settings from its record, duty from its preload (R151 steps 2 and 3). -/
def ChannelOut.refreshed (period : Nat) (r : ChannelRecord) (c : ChannelOut) : ChannelOut :=
  { preload := c.preload, duty := dutyOf period r c.preload, polarity := r.polarity, alignment := r.alignment,
    trip := r.trip }

/-- The stage state and resume mark that a refresh settles (R151 step 4, R156, R157, R162). -/
def settleStage (state : StageState) (firstLevels resume : Bool) : StageState × Bool :=
  match state with
  | .released => (if firstLevels then .running else .released, resume)
  | .running => (.running, resume)
  | .tripped => if resume then (if firstLevels then .running else .released, false) else (.tripped, resume)

/-- The output stage after a refresh under plan `p` (R151). -/
def Stage.refreshed (p : Plan) (x : Stage) : Stage :=
  let settled := settleStage x.state x.firstLevels x.resume
  { x with
    counter := 0
    refreshCount := 0
    period := p.general.pwmPeriod
    repetition := p.general.repetition
    chans := List.zipWith (ChannelOut.refreshed p.general.pwmPeriod) p.channels x.chans
    state := settled.1
    resume := settled.2 }

/-! ### Fault sensing -/

/-- A sample acts on a record (R171); `k` is the fault confirm count, `true` an asserted sample. -/
def FaultRecord.sample (k : Nat) (asserted : Bool) (f : FaultRecord) : FaultRecord :=
  let f1 := { f with last := some asserted }
  match f.state, asserted with
  | .clear, false => f1
  | .clear, true => if k ≤ 1 then { f1 with state := .faulted, count := 0 } else { f1 with state := .suspect, count := 1 }
  | .suspect, false => { f1 with state := .clear, count := 0 }
  | .suspect, true =>
    if k ≤ f.count + 1 then { f1 with state := .faulted, count := 0 } else { f1 with count := f.count + 1 }
  | .faulted, _ => f1

/-- Whether a channel is sampled at a refresh (R169). -/
def isSampled (state : StageState) (r : ChannelRecord) (c : ChannelOut) : Bool :=
  state == .running && r.zone.isSome && r.sense && 0 < c.duty

/-- The fault records after the sampling of a refresh; a low FLT pin is an asserted sample (R169, R171). -/
def sampleFaults (k : Nat) (state : StageState) (flt : BitVec 32) (records : List ChannelRecord) (chans : List ChannelOut)
    (faults : List FaultRecord) : List FaultRecord :=
  List.zipWith
    (fun x f => if isSampled state x.1.1 x.1.2 then f.sample k (!flt.getLsbD x.2) else f)
    (records.zip chans).zipIdx faults

/-- A refresh: the output stage's work, then the sampling of the fault pins (R151, R169). -/
def State.refreshed (s : State) (flt : BitVec 32) : State :=
  let plan := s.plans.running
  let stage := s.stage.refreshed plan
  { s with
    pins := { s.pins with flt := flt }
    stage := stage
    faults := sampleFaults plan.general.confirmCount stage.state flt plan.channels stage.chans s.faults }

/-- REFRESH (R150, R151): the R-th period end, the period ends before it having passed. [log 8] -/
def execRefresh (flt : BitVec 32) (s : State) : Host.Outcome State Fault Refusal :=
  .next (if s.started then s.refreshed flt else s)

/-- PERIOD_END (R150): the counter returns to 0 and the refresh counter rises; where it then equals the active
repetition, the period end is also a refresh, with the fault pins as last presented. [log 8] -/
def execPeriodEnd (s : State) : Host.Outcome State Fault Refusal :=
  .next
    (if s.started then
      if s.stage.repetition ≤ s.stage.refreshCount + 1 then s.refreshed s.pins.flt
      else { s with stage := { s.stage with counter := 0, refreshCount := s.stage.refreshCount + 1 } }
    else s)

/-! ### Trip at the output stage -/

/-- An accepted assertion at the stage (R158): a stage with the plan loaded is TRIPPED with the resume mark clear; before
the plan load it stays RELEASED. -/
def Stage.assertTrip (x : Stage) : Stage := if x.planLoaded then { x with state := .tripped, resume := false } else x

/-- An accepted release at the stage (R161): a TRIPPED stage sets its resume mark under auto-resume YES. -/
def Stage.releaseTrip (autoResume : Bool) (x : Stage) : Stage :=
  if x.state = .tripped ∧ autoResume = true then { x with resume := true } else x

/-- CLEAR TRIP at its owner (R163). -/
def takeClearTrip (_l : Line) (fields : List Byte) (s : State) : State × Answer :=
  if fields ≠ [] then (s, .plain .badField)
  else if s.safety.trip then (s, .plain .inputActive)
  else if s.stage.state = .tripped then ({ s with stage := { s.stage with resume := true } }, .plain .done)
  else (s, .plain .done)

/-! ### CLEAR FAULTS -/

/-- A record named by CLEAR FAULTS (R174). -/
def FaultRecord.cleared (f : FaultRecord) : FaultRecord :=
  if f.state = .faulted then
    if f.last = some true then { f with state := .suspect, count := 1 } else { f with state := .clear, count := 0 }
  else f

/-- CLEAR FAULTS at its owner (R174). No rule gives the number of characters of the count cleared in the reply: the model
sends one, which holds 0 to 32. [log 27] -/
def takeClearFaults (_l : Line) (fields : List Byte) (s : State) : State × Answer :=
  if 1 ≤ fields.length ∧ fields.length ≤ 32 ∧ (fields.all fun c => c.toNat ≤ 31) = true ∧ fields.Nodup then
    let named : Nat → Bool := fun c => fields.contains (u8 c)
    let cleared := (s.faults.zipIdx.filter fun x => named x.2 && x.1.state == .faulted).length
    ({ s with faults := s.faults.zipIdx.map fun x => if named x.2 then x.1.cleared else x.1 }, ⟨.done, [u8 cleared]⟩)
  else (s, .plain .badField)

/-! ### READ CHANNELS -/

/-- The code of a fault state (R200). -/
def FaultState.code : FaultState → Byte
  | .clear => 0
  | .suspect => 1
  | .faulted => 2

/-- The five characters of a channel (R200). -/
def channelEntry (c : ChannelOut) (f : FaultRecord) : List Byte := be16 c.preload ++ be16 c.duty ++ [f.state.code]

/-- READ CHANNELS at its owner (R167, R200). -/
def takeReadChannels (_l : Line) (fields : List Byte) (s : State) : State × Answer :=
  match fields with
  | [first, count] =>
    if first.toNat ≤ 31 ∧ 1 ≤ count.toNat ∧ count.toNat ≤ 8 ∧ first.toNat + count.toNat ≤ 32 then
      let shown := ((s.stage.chans.zip s.faults).drop first.toNat).take count.toNat
      (s, ⟨.done, [first, count] ++ shown.flatMap fun x => channelEntry x.1 x.2⟩)
    else (s, .plain .badField)
  | _ => (s, .plain .badField)

end Sys2Proof.Machine
end

