-- ==== Sys2Proof/Machine/SafetyEvents.lean ====
section
/-! DEFINITION. The safety inputs (07_safety_inputs): sample events, the TRIP detector, CLEAR FIRE, ACK EVENTS. -/

namespace Sys2Proof.Machine

/-- One sample event with the levels of FIRE_N and BACKUP_N (`true` high): the filters, the fire latch, the seen flags
(R133, R134, R136, R140, R143). -/
def SafetyInputs.sample (fireN backupN : Bool) (x : SafetyInputs) : SafetyInputs :=
  { x with
    samplePhase := 0
    fire := x.fire.sample !fireN
    backup := x.backup.sample !backupN
    latch := x.latch || x.fire.takesAssertion !fireN
    seenFire := x.seenFire || x.fire.takesAssertion !fireN
    seenBackup := x.seenBackup || x.backup.takesAssertion !backupN }

/-- SAMPLE_EVENT (R133): the sample timer runs from the release of reset. [log 6] -/
def execSampleEvent (fireN backupN : Bool) (s : State) : Host.Outcome State Fault Refusal :=
  .next
    (if s.watching then
      { s with pins := { s.pins with fireN := fireN, backupN := backupN }, safety := s.safety.sample fireN backupN }
    else s)

/-- Whether TRIP_N at the level `high` departs from the TRIP state (R141): low in IDLE, or high in ASSERTED. -/
def SafetyInputs.departs (x : SafetyInputs) (high : Bool) : Bool := high == x.trip

/-- The detector meets the pin at the level `high`: a departure starts a qualification, or lets one under way go on; a
return abandons it (R141). -/
def SafetyInputs.tripPin (high : Bool) (x : SafetyInputs) : SafetyInputs :=
  if x.departs high then { x with qualifying := some (x.qualifying.getD 0) } else { x with qualifying := none }

/-- TRIP_PIN_CHANGE (R141): while the part is held in reset the pin is not watched (R147). -/
def execTripPinChange (high : Bool) (s : State) : Host.Outcome State Fault Refusal :=
  .next
    { s with
      pins := { s.pins with tripN := high }
      safety := if s.watching then s.safety.tripPin high else s.safety }

/-- TRIP_ASSERTION_ACCEPTED (R141, R158): in IDLE, the pin has been low for 1 µs. -/
def execTripAssertionAccepted (s : State) : Host.Outcome State Fault Refusal :=
  .next
    (if s.watching && !s.safety.trip then
      { s with
        pins := { s.pins with tripN := false }
        safety := { s.safety with trip := true, seenTrip := true, qualifying := none }
        stage := s.stage.assertTrip }
    else s)

/-- TRIP_RELEASE_ACCEPTED (R141, R161): in ASSERTED, the pin has been high for 1 µs. -/
def execTripReleaseAccepted (s : State) : Host.Outcome State Fault Refusal :=
  .next
    (if s.watching && s.safety.trip then
      { s with
        pins := { s.pins with tripN := true }
        safety := { s.safety with trip := false, qualifying := none }
        stage := s.stage.releaseTrip s.plans.running.general.autoResume }
    else s)

/-- CLEAR FIRE at its owner (R137). -/
def takeClearFire (_l : Line) (fields : List Byte) (s : State) : State × Answer :=
  if fields ≠ [] then (s, .plain .badField)
  else if s.safety.fire.asserted then (s, .plain .inputActive)
  else ({ s with safety := { s.safety with latch := false } }, .plain .done)

/-- ACK EVENTS at its owner (R144). -/
def takeAckEvents (_l : Line) (fields : List Byte) (s : State) : State × Answer :=
  if 1 ≤ fields.length ∧ fields.length ≤ 3 ∧ (fields.all fun c => c.toNat ≤ 2) = true ∧ fields.Nodup then
    ({ s with safety := s.safety.acknowledge fields }, .plain .done)
  else (s, .plain .badField)

end Sys2Proof.Machine
end

