-- ==== Sys2Proof/Machine/PlanStore.lean ====
section
/-! DEFINITION. The plan store (12_plan_store_and_start_up): the stored image, SAVE and the steps of a save. -/

namespace Sys2Proof.Machine

/-! ### The plan words. Their packing is "a form of the store's own" (R207): the wire records one after another, each
curve padded to 12 breakpoints, the codes of a zone record in one character. [log 15] -/

/-- `l` padded with zeros to `n` characters. -/
def padTo (n : Nat) (l : List Byte) : List Byte := l ++ List.replicate (n - l.length) 0

/-- The kind, portal and compensation of a zone in one character. -/
def ZoneRecord.packedCodes (r : ZoneRecord) : Byte :=
  u8 (r.kind.code + 8 * (match r.portal with | none => 0 | some .a => 1 | some .b => 2) + 32 * switchCode r.compensation)

/-- The 11 characters of a packed zone record. -/
def ZoneRecord.packed (r : ZoneRecord) : List Byte := r.packedCodes :: (r.bytes.drop 2).take 10

/-- The zone record of 11 packed characters. -/
def ZoneRecord.unpack : List Byte → Option ZoneRecord
  | k :: rest =>
    let portal : Nat := match k.toNat / 8 % 4 with | 0 => 255 | 1 => 0 | 2 => 1 | _ => 2
    ZoneRecord.parse ([u8 (k.toNat % 8), u8 portal] ++ rest ++ [u8 (k.toNat / 32)])
  | [] => none

/-- The curve of its 49 packed characters: the count, then 12 places. -/
def unpackCurve (l : List Byte) : Option (List Breakpoint) := parseCurve (l.take (1 + 4 * (l.headD 0).toNat))

/-- The 508 characters of the plan words (R207: unused bytes are 0). -/
def Plan.packed (p : Plan) : List Byte :=
  padTo 508
    (p.general.bytes ++ p.portals.a.bytes ++ p.portals.b.bytes ++ padTo 49 (curveBytes p.curves.a)
      ++ padTo 49 (curveBytes p.curves.b) ++ p.zones.flatMap ZoneRecord.packed ++ p.channels.flatMap ChannelRecord.bytes)

/-- The plan of 508 characters of plan words. -/
def unpackPlan (l : List Byte) : Option Plan :=
  match General.parse (l.take 21), PortalRecord.parse ((l.drop 21).take 12), PortalRecord.parse ((l.drop 33).take 12),
    unpackCurve ((l.drop 45).take 49), unpackCurve ((l.drop 94).take 49),
    allSome ((chunks 11 12 (l.drop 143)).map ZoneRecord.unpack),
    allSome ((chunks 7 32 (l.drop 275)).map ChannelRecord.parse) with
  | some g, some a, some b, some ca, some cb, some zs, some cs => some ⟨g, ⟨a, b⟩, ⟨ca, cb⟩, zs, cs⟩
  | _, _, _, _, _, _, _ => none

/-! ### The image (R207) -/

/-- The committed marker. -/
def committedMarker : Nat := 0x3C5A

/-- The pending marker (R208). -/
def pendingMarker : Nat := 0x3CFF

/-- The sum of the 16-bit words of an image, most significant character first. -/
def wordSum : List Byte → Nat
  | h :: l :: rest => nat16 h l + wordSum rest
  | _ => 0

/-- The check word, which makes the sum of all words 0 modulo 65,536 under the committed marker (R207). -/
def checkWord (planWords : List Byte) : Nat := (65536 - (committedMarker + wordSum planWords) % 65536) % 65536

/-- The image of a plan with a marker: marker, plan words, check. -/
def imageOf (marker : Nat) (p : Plan) : List Byte := be16 marker ++ p.packed ++ be16 (checkWord p.packed)

/-- The image is valid when the marker is 0x3C5A and the sum of all words is 0 (R207). -/
def imageValid (image : List Byte) : Bool :=
  image.take 2 == be16 committedMarker && wordSum image % 65536 == 0

/-- The plan start-up takes from a valid image. A valid image was written from a running plan (R211), so its words hold
a plan that is in range and valid; words that do not are treated as no valid image. [log 16] -/
def storedPlan (image : List Byte) : Option Plan :=
  if imageValid image then (unpackPlan ((image.drop 2).take 508)).filter Plan.valid else none

/-! ### SAVE (R208) -/

/-- SAVE at its owner. -/
def takeSave (_l : Line) (fields : List Byte) (s : State) : State × Answer :=
  if fields ≠ [] then (s, .plain .badField)
  else if s.store.state = .idle then
    ({ s with store := { s.store with
        state := .erasing, snapshot := some (imageOf pendingMarker s.plans.running), index := 0, phase := 0 } },
      .plain .accepted)
  else (s, .plain .storeBusy)

/-! ### The steps of a save (R209) -/

/-- The image with page `page` (0, else 1) erased. -/
def erasePage (page : Nat) (image : List Byte) : List Byte :=
  if page = 0 then List.replicate 256 0xFF ++ image.drop 256 else image.take 256 ++ List.replicate 256 0xFF

/-- The erasure of a page completes: page 0, then page 1, then PROGRAMMING. -/
def Store.pageErased (x : Store) : Store :=
  if x.state = .erasing then
    if x.index = 0 then { x with image := erasePage 0 x.image, index := 1, phase := 0 }
    else { x with image := erasePage 1 x.image, index := 0, phase := 0, state := .programming }
  else x

/-- The programming of the 512 bytes completes. -/
def Store.programmed (x : Store) : Store :=
  if x.state = .programming then
    { x with image := x.snapshot.getD x.image, index := 0, phase := 0, state := .verifying }
  else x

/-- The verification ends: with every byte equal the marker is committed and read back as `marker`; SAVED where it reads
0x3C5A; FAILED otherwise; the store is IDLE and its snapshot discarded. [log 13, log 14] -/
def Store.verified (differs : Bool) (marker : BitVec 16) (x : Store) : Store :=
  if x.state = .verifying then
    { x with
      image := if differs then x.image else be16 marker.toNat ++ x.image.drop 2
      state := .idle
      snapshot := none
      result := if !differs && marker.toNat == committedMarker then .saved else .failed
      index := 0
      phase := 0 }
  else x

/-- A reset abandons a save: a page being erased is left without its contents, so the image is not valid (R209). [log
14] -/
def Store.abandoned (x : Store) : Store :=
  Store.idleWith (if x.state = .erasing then erasePage x.index x.image else x.image)

/-- PAGE_ERASED (R209). -/
def execPageErased (s : State) : Host.Outcome State Fault Refusal :=
  .next (if s.started then { s with store := s.store.pageErased } else s)

/-- PROGRAMMING_COMPLETE (R209). -/
def execProgrammingComplete (s : State) : Host.Outcome State Fault Refusal :=
  .next (if s.started then { s with store := s.store.programmed } else s)

/-- VERIFY_COMPLETE (R209). -/
def execVerifyComplete (differs : Bool) (marker : BitVec 16) (s : State) : Host.Outcome State Fault Refusal :=
  .next (if s.started then { s with store := s.store.verified differs marker } else s)

end Sys2Proof.Machine
end

