-- ==== Sys2Proof/Machine/StartUp.lean ====
section
/-! DEFINITION. Reset and start-up (12_plan_store_and_start_up R210, R211): the causes, what a reset leaves of each
block, the start-up steps. -/

namespace Sys2Proof.Machine

/-- Whether a cause stands. -/
def Monitor.stands (m : Monitor) : ResetCause → Bool
  | .powerOn => m.powerOn
  | .supplyLow => m.supplyLow
  | .external => m.external

/-- The monitor with a cause standing or not. -/
def Monitor.setCause (m : Monitor) (c : ResetCause) (on : Bool) : Monitor :=
  match c with
  | .powerOn => { m with powerOn := on }
  | .supplyLow => { m with supplyLow := on }
  | .external => { m with external := on }

/-- Whether any cause stands (R210). -/
def Monitor.anyStands (m : Monitor) : Bool := m.powerOn || m.supplyLow || m.external

/-- The monitor as a cause begins to stand: the part is held. A power-up begins its 2 ms delay afresh (R210). -/
def Monitor.enter (m : Monitor) (c : ResetCause) : Monitor :=
  { m.setCause c true with
    phase := .held, waitClocks := 0, divider := 0, powerTimer := if c = .powerOn then none else m.powerTimer }

/-- What a reset leaves of the part: the stored image, the recorded cause, the pins, the queue; every block at its reset
value (R24, R38, R72, R114, R147, R166, R179, R192, R209). Plan memory and the engine's modes, which hold nothing across
a reset and are set by start-up, stand at the built-in plan's. [log 4] -/
def State.heldReset (s : State) (m : Monitor) : State :=
  { monitor := m
    pins := s.pins
    straps := s.straps
    plans := PlanMemory.loaded builtInPlan .builtIn
    store := s.store.abandoned
    portals := ⟨PortalUnit.started builtInPortal, PortalUnit.started builtInPortal⟩
    photometers := ⟨Photometer.off, Photometer.off⟩
    engine := ZoneEngine.started builtInGeneral
    claims := ClaimTable.empty
    safety := SafetyInputs.held
    stage := Stage.held
    faults := initialFaults
    lines := ⟨LinePort.initial, LinePort.initial, LinePort.initial⟩
    freeCount := s.freeCount
    pending := s.pending }

/-- RESET_ENTRY (R210). -/
def execResetEntry (cause : ResetCause) (s : State) : Host.Outcome State Fault Refusal :=
  .next (s.heldReset (s.monitor.enter cause))

/-- The monitor after a standing cause stops standing: with none left the wait begins and the cause is recorded. At a
power-up the rise of VDD starts the 2 ms of POWER_ON (R210). -/
def Monitor.leave (m : Monitor) (c : ResetCause) : Monitor :=
  let m1 := m.setCause c false
  if m1.anyStands then
    if c = .supplyLow ∧ m1.powerOn = true ∧ m1.powerTimer = none then { m1 with powerTimer := some 0 } else m1
  else { m1 with phase := .wait, cause := c, waitClocks := 0, powerTimer := none }

/-- RESET_RELEASE (R210): when the last cause stops standing the sample timer starts and the TRIP detector begins to
watch its pin (R133, R147). A cause that does not stand cannot stop standing [log 9]. DESIGN CHOICE: a release of POWER_ON
commanded before its 2 ms have begun is taken as the release, also while SUPPLY_LOW stands. [log 30] -/
def execResetRelease (cause : ResetCause) (s : State) : Host.Outcome State Fault Refusal :=
  let m := s.monitor.leave cause
  .next
    (if s.monitor.phase = .held ∧ s.monitor.stands cause = true then
      { s with
        monitor := m
        safety := if m.phase = .wait then s.safety.tripPin s.pins.tripN else s.safety }
    else s)

/-- The plan and plan source start-up takes (R211 step 2). -/
def startUpPlan (image : List Byte) : PlanMemory :=
  match storedPlan image with
  | some p => PlanMemory.loaded p .saved
  | none => PlanMemory.loaded builtInPlan .builtIn

/-- The start-up steps of R211 with the sampled straps. -/
def State.startUp (s : State) (address : BitVec 5) (rate : BitVec 2) : State :=
  let plans := startUpPlan s.store.image
  let plan := plans.running
  { s with
    monitor := { s.monitor with phase := .run, waitClocks := 0, divider := 0 }
    pins := { s.pins with address := address, rate := rate }
    straps := ⟨address, rate⟩
    plans := plans
    portals := ⟨PortalUnit.started plan.portals.a, PortalUnit.started plan.portals.b⟩
    photometers := ⟨Photometer.started plan.portals.a, Photometer.started plan.portals.b⟩
    engine := ZoneEngine.started plan.general
    claims := ClaimTable.empty
    stage := Stage.loaded plan s.safety.trip
    faults := initialFaults
    lines := ⟨LinePort.initial, LinePort.initial, LinePort.initial⟩ }

/-- START_UP (R211): at the end of the start-up wait. [log 6] -/
def execStartUp (address : BitVec 5) (rate : BitVec 2) (s : State) : Host.Outcome State Fault Refusal :=
  .next (if s.monitor.phase = .wait then s.startUp address rate else s)

end Sys2Proof.Machine
end

