-- ==== Sys2Proof/Machine/Lines.lean ====
section
/-! DEFINITION. The line ports (10_field_lines) and the hand-over of requests (11_requests_and_replies): characters,
frames, dispatch to the owners, replies, counters, READ PART, CLEAR COUNTS. -/

namespace Sys2Proof.Machine

/-! ### Counters and READ PART -/

/-- A line port with both counters 0 (R191). -/
def LinePort.zeroCounts (x : LinePort) : LinePort := { x with rejected := 0, dropped := 0 }

/-- CLEAR COUNTS at the line ports (R191). -/
def takeClearCounts (_l : Line) (fields : List Byte) (s : State) : State × Answer :=
  if fields = [] then
    ({ s with lines := ⟨s.lines.a.zeroCounts, s.lines.b.zeroCounts, s.lines.s.zeroCounts⟩ }, .plain .done)
  else (s, .plain .badField)

/-- The code of a reset cause (R202). -/
def causeCode : ResetCause → Byte
  | .powerOn => 0
  | .supplyLow => 1
  | .external => 2

/-- The code of a plan source (R202). -/
def PlanSource.code : PlanSource → Byte
  | .saved => 0
  | .builtIn => 1

/-- The code of a store state (R202). -/
def StoreState.code : StoreState → Byte
  | .idle => 0
  | .erasing => 1
  | .programming => 2
  | .verifying => 3

/-- The code of a save result (R202). -/
def SaveResult.code : SaveResult → Byte
  | .none => 0
  | .saved => 1
  | .failed => 2

/-- The code of a day/night state (R202). -/
def DayNight.code : DayNight → Byte
  | .day => 0
  | .night => 1

/-- The code of a stage state (R202). -/
def StageState.code : StageState → Byte
  | .released => 0
  | .running => 1
  | .tripped => 2

/-- The 18 characters of the READ PART payload on line `l` (R202). -/
def State.partFigures (s : State) (l : Line) : List Byte :=
  [causeCode s.monitor.cause, s.plans.source.code, s.store.state.code, s.store.result.code, u8 s.engine.direction.code,
    s.engine.dayNight.code, flag s.safety.latch, flag s.safety.fire.asserted, flag s.safety.backup.asserted,
    flag s.safety.trip, flag s.safety.seenFire, flag s.safety.seenBackup, flag s.safety.seenTrip, s.stage.state.code]
    ++ be16 (s.lines.get l).rejected ++ be16 (s.lines.get l).dropped

/-- READ PART at its owners (R202). -/
def takeReadPart (l : Line) (fields : List Byte) (s : State) : State × Answer :=
  if fields = [] then (s, ⟨.done, s.partFigures l⟩) else (s, .plain .badField)

/-! ### From CHECK to owner (R193) -/

/-- The owner of a kind takes a request. -/
def ownerTakes (k : Kind) (l : Line) (fields : List Byte) (s : State) : State × Answer :=
  match k with
  | .report => takeReport l fields s
  | .readPortals => takeReadPortals l fields s
  | .readZones => takeReadZones l fields s
  | .readChannels => takeReadChannels l fields s
  | .readClaims => takeReadClaims l fields s
  | .readPart => takeReadPart l fields s
  | .claim => takeClaim l fields s
  | .release => takeRelease l fields s
  | .withdraw => takeWithdraw l fields s
  | .setDirection => takeSetDirection l fields s
  | .clearFire => takeClearFire l fields s
  | .clearTrip => takeClearTrip l fields s
  | .ackEvents => takeAckEvents l fields s
  | .clearFaults => takeClearFaults l fields s
  | .clearCounts => takeClearCounts l fields s
  | .planRead => takePlanRead l fields s
  | .draftLoad => takeDraftLoad l fields s
  | .draftPut => takeDraftPut l fields s
  | .adopt => takeAdopt l fields s
  | .save => takeSave l fields s

/-- An addressed request: unknown kind, then wrong line, then the owner (R193). -/
def dispatch (l : Line) (kind : Byte) (fields : List Byte) (s : State) : State × Answer :=
  match Kind.ofCode kind with
  | none => (s, .plain .badKind)
  | some k => if k.allowed l then ownerTakes k l fields s else (s, .plain .refusedLine)

/-- A broadcast request: SET DIRECTION, and REPORT on Line A or Line B, reach their owners; every other kind, and a REPORT
on Line S, is dropped (R187). -/
def dispatchBroadcast (l : Line) (kind : Byte) (fields : List Byte) (s : State) : State :=
  match Kind.ofCode kind with
  | some .setDirection => (takeSetDirection l fields s).1
  | some .report => if l = .s then s else (takeReport l fields s).1
  | _ => s

/-- The reply frame of this part (R189, R194). -/
def State.replyFrame (s : State) (kind : Byte) (a : Answer) : List Byte :=
  frameOf (u8 (0x40 + s.straps.address.toNat)) (a.body kind)

/-! ### Events of a line port -/

/-- A frame is rejected: the buffer is emptied, the rejected frame count rises, the port is in LISTEN (R185, R190).
The silence timer stops with the frame: the spec does not say where it stops. [log 28] -/
def LinePort.reject (x : LinePort) : LinePort :=
  { x with state := .listen, frame := [], silence := none, rejected := bump x.rejected }

/-- A held reply is dropped (R188, R190); the silence timer stops [log 28]. -/
def LinePort.dropReply (x : LinePort) : LinePort :=
  { x with state := .listen, reply := [], silence := none, dropped := bump x.dropped }

/-- An address character is taken afresh: a matching one starts a frame in COLLECT, another leaves the port in LISTEN
(R183), with the silence timer stopped [log 28]. -/
def LinePort.takeAddress (isMatch : Bool) (value : Byte) (x : LinePort) : LinePort :=
  if isMatch then { x with state := .collect, frame := [value], silence := some 0 }
  else { x with state := .listen, frame := [], silence := none }

/-- An address character at a port (R183, R184, R185, R188); in REPLY the receiver is not looking (R182). -/
def LinePort.address (isMatch : Bool) (value : Byte) (x : LinePort) : LinePort :=
  match x.state with
  | .listen => x.takeAddress isMatch value
  | .collect => x.reject.takeAddress isMatch value
  | .turnaround => x.dropReply.takeAddress isMatch value
  | .reply => x

/-- Whether an address character is a start for this part: broadcast, or the station address, which a listen-only part
never matches (R181, R183). -/
def State.matches (s : State) (value : Byte) : Bool :=
  value == 0 || (s.straps.address != 0 && value == s.straps.address.setWidth 8)

/-- An address character arrives on line `l` (R183). -/
def State.addressChar (s : State) (l : Line) (value : Byte) : State :=
  s.setLine l ((s.lines.get l).address (s.matches value) value)

/-- A port that has handed over a broadcast frame: LISTEN, its frame buffer emptied (R186), the silence timer stopped [log
28]. -/
def LinePort.afterBroadcast (x : LinePort) : LinePort := { x with state := .listen, frame := [], silence := none }

/-- A port that has handed over an addressed frame: TURNAROUND with the reply held (R186). -/
def LinePort.afterRequest (reply : List Byte) (x : LinePort) : LinePort :=
  { x with state := .turnaround, frame := [], reply := reply, silence := some 0 }

/-- Line `l` once a broadcast frame has been handed over (R186). -/
def State.listening (s : State) (l : Line) : State := s.setLine l (s.lines.get l).afterBroadcast

/-- Line `l` once a request of kind `kind` has been taken with the answer `a`: the reply is framed and held (R186, R194). -/
def State.answered (s : State) (l : Line) (kind : Byte) (a : Answer) : State :=
  s.setLine l ((s.lines.get l).afterRequest (s.replyFrame kind a))

/-- The hand-over of a valid frame's body (R186, R187, R193, R194). -/
def State.handOver (s : State) (l : Line) (bc : Bool) (body : List Byte) : State :=
  match body with
  | [] => s
  | kind :: fields =>
    if bc then (dispatchBroadcast l kind fields s).listening l
    else (dispatch l kind fields s).1.answered l kind (dispatch l kind fields s).2

/-- A data character arrives on line `l` in COLLECT: LEN is checked at its arrival, and the character that completes the
frame is CHECK (R185, R186). -/
def State.collectChar (s : State) (l : Line) (value : Byte) : State :=
  let port := s.lines.get l
  let frame := port.frame ++ [value]
  let kept := s.setLine l { port with frame := frame, silence := some 0 }
  match frame with
  | [_, len] => if len = 0 ∨ 60 < len.toNat then s.setLine l port.reject else kept
  | address :: len :: rest =>
    if rest.length = len.toNat + 1 then
      if charSum frame = 0 then s.handOver l (address == 0) (rest.take len.toNat) else s.setLine l port.reject
    else kept
  | _ => kept

/-- A data character arrives on line `l` (R184, R185, R188). -/
def State.dataChar (s : State) (l : Line) (value : Byte) : State :=
  match (s.lines.get l).state with
  | .listen => s
  | .collect => s.collectChar l value
  | .turnaround => s.setLine l { s.lines.get l with silence := some 0 }
  | .reply => s

/-- A framing error at a port (R182, R184, R185, R188). -/
def LinePort.framingError (x : LinePort) : LinePort :=
  match x.state with
  | .listen => x
  | .collect => x.reject
  | .turnaround => { x with silence := some 0 }
  | .reply => x

/-- The gap at a port: in COLLECT the frame is rejected (R185). -/
def LinePort.gap (x : LinePort) : LinePort := if x.state = .collect then x.reject else x

/-- The end of the silence wait: in TURNAROUND the port enters REPLY and begins to transmit (R188), with the silence
timer stopped [log 28]. -/
def LinePort.beginReply (x : LinePort) : LinePort :=
  if x.state = .turnaround then { x with state := .reply, silence := none, sent := 0 } else x

/-- The end of the reply: the reply buffer is emptied and the port enters LISTEN (R189). -/
def LinePort.endReply (x : LinePort) : LinePort :=
  if x.state = .reply then { x with state := .listen, reply := [], sent := 0 } else x

/-- ADDRESS_CHARACTER (R183). -/
def execAddressCharacter (l : Line) (value : Byte) (s : State) : Host.Outcome State Fault Refusal :=
  .next (if s.started then s.addressChar l value else s)

/-- DATA_CHARACTER (R185, R186). -/
def execDataCharacter (l : Line) (value : Byte) (s : State) : Host.Outcome State Fault Refusal :=
  .next (if s.started then s.dataChar l value else s)

/-- FRAMING_ERROR (R182). -/
def execFramingError (l : Line) (s : State) : Host.Outcome State Fault Refusal :=
  .next (if s.started then s.setLine l (s.lines.get l).framingError else s)

/-- GAP_TIMEOUT (R185). [log 6] -/
def execGapTimeout (l : Line) (s : State) : Host.Outcome State Fault Refusal :=
  .next (if s.started then s.setLine l (s.lines.get l).gap else s)

/-- TURNAROUND_SILENCE (R188). [log 6] -/
def execTurnaroundSilence (l : Line) (s : State) : Host.Outcome State Fault Refusal :=
  .next (if s.started then s.setLine l (s.lines.get l).beginReply else s)

/-- REPLY_END (R189). [log 6] -/
def execReplyEnd (l : Line) (s : State) : Host.Outcome State Fault Refusal :=
  .next (if s.started then s.setLine l (s.lines.get l).endReply else s)

end Sys2Proof.Machine
end

