-- ==== Sys2Proof/Machine/Requests.lean ====
section
/-! DEFINITION. The request commands: each stands for its whole frame, from the address character to CHECK, arriving on a
line with no gap [log 10]. What its characters do to the port is that of Machine/Lines.lean; what the request does is its
owner's (`take…`), in the owner's file. -/

namespace Sys2Proof.Machine

/-- The address character of a frame sent to this part: 0x00 for a broadcast, else the station address. No address
character reaches a listen-only part (R181, R183), so a frame meant for it carries one without meaning. -/
def State.frameAddress (s : State) (bc : Bool) : Byte :=
  if bc then 0 else if s.straps.address = 0 then 0x20 else s.straps.address.setWidth 8

/-- The part once the address character of a frame sent to it on line `l` has been taken (R183 to R188). -/
def State.addressed (s : State) (l : Line) (bc : Bool) : State := s.addressChar l (s.frameAddress bc)

/-- A frame's characters after the address character, at a port that has taken that character: a frame for another
station passes by, a body that no LEN of 1 to 60 fits is rejected at LEN, any other is handed over at CHECK (R183, R185,
R186). -/
def State.frameRest (s : State) (l : Line) (bc isMatch : Bool) (body : List Byte) : State :=
  if !isMatch then s
  else if body.length = 0 ∨ 60 < body.length then s.setLine l (s.lines.get l).reject
  else s.handOver l bc body

/-- A whole frame with a body arrives on line `l`. A port that does not listen (in reset, R192; in REPLY, R182) receives
nothing. -/
def State.request (s : State) (l : Line) (bc : Bool) (body : List Byte) : State :=
  if !s.started || (s.lines.get l).state == .reply then s
  else (s.addressed l bc).frameRest l bc (s.matches (s.frameAddress bc)) body

/-- REPORT (R4, R8). -/
def execReport (l : Line) (bc : Bool) (fields : List Byte) (s : State) : Host.Outcome State Fault Refusal :=
  .next (s.request l bc (Kind.report.code :: fields))

/-- DRAFT_LOAD (R55). -/
def execDraftLoad (l : Line) (bc : Bool) (fields : List Byte) (s : State) : Host.Outcome State Fault Refusal :=
  .next (s.request l bc (Kind.draftLoad.code :: fields))

/-- DRAFT_PUT (R56). -/
def execDraftPut (l : Line) (bc : Bool) (fields : List Byte) (s : State) : Host.Outcome State Fault Refusal :=
  .next (s.request l bc (Kind.draftPut.code :: fields))

/-- ADOPT (R64, R65). -/
def execAdopt (l : Line) (bc : Bool) (fields : List Byte) (s : State) : Host.Outcome State Fault Refusal :=
  .next (s.request l bc (Kind.adopt.code :: fields))

/-- PLAN_READ (R68). -/
def execPlanRead (l : Line) (bc : Bool) (fields : List Byte) (s : State) : Host.Outcome State Fault Refusal :=
  .next (s.request l bc (Kind.planRead.code :: fields))

/-- SET_DIRECTION (R77). -/
def execSetDirection (l : Line) (bc : Bool) (fields : List Byte) (s : State) : Host.Outcome State Fault Refusal :=
  .next (s.request l bc (Kind.setDirection.code :: fields))

/-- READ_ZONES (R92, R199). -/
def execReadZones (l : Line) (bc : Bool) (fields : List Byte) (s : State) : Host.Outcome State Fault Refusal :=
  .next (s.request l bc (Kind.readZones.code :: fields))

/-- CLAIM (R98). -/
def execClaim (l : Line) (bc : Bool) (fields : List Byte) (s : State) : Host.Outcome State Fault Refusal :=
  .next (s.request l bc (Kind.claim.code :: fields))

/-- RELEASE (R104, R105). -/
def execRelease (l : Line) (bc : Bool) (fields : List Byte) (s : State) : Host.Outcome State Fault Refusal :=
  .next (s.request l bc (Kind.release.code :: fields))

/-- WITHDRAW (R106). -/
def execWithdraw (l : Line) (bc : Bool) (fields : List Byte) (s : State) : Host.Outcome State Fault Refusal :=
  .next (s.request l bc (Kind.withdraw.code :: fields))

/-- READ_CLAIMS (R113, R201). -/
def execReadClaims (l : Line) (bc : Bool) (fields : List Byte) (s : State) : Host.Outcome State Fault Refusal :=
  .next (s.request l bc (Kind.readClaims.code :: fields))

/-- CLEAR_FIRE (R137). -/
def execClearFire (l : Line) (bc : Bool) (fields : List Byte) (s : State) : Host.Outcome State Fault Refusal :=
  .next (s.request l bc (Kind.clearFire.code :: fields))

/-- ACK_EVENTS (R144). -/
def execAckEvents (l : Line) (bc : Bool) (fields : List Byte) (s : State) : Host.Outcome State Fault Refusal :=
  .next (s.request l bc (Kind.ackEvents.code :: fields))

/-- CLEAR_TRIP (R163). -/
def execClearTrip (l : Line) (bc : Bool) (fields : List Byte) (s : State) : Host.Outcome State Fault Refusal :=
  .next (s.request l bc (Kind.clearTrip.code :: fields))

/-- READ_CHANNELS (R167, R200). -/
def execReadChannels (l : Line) (bc : Bool) (fields : List Byte) (s : State) : Host.Outcome State Fault Refusal :=
  .next (s.request l bc (Kind.readChannels.code :: fields))

/-- CLEAR_FAULTS (R174). -/
def execClearFaults (l : Line) (bc : Bool) (fields : List Byte) (s : State) : Host.Outcome State Fault Refusal :=
  .next (s.request l bc (Kind.clearFaults.code :: fields))

/-- CLEAR_COUNTS (R191). -/
def execClearCounts (l : Line) (bc : Bool) (fields : List Byte) (s : State) : Host.Outcome State Fault Refusal :=
  .next (s.request l bc (Kind.clearCounts.code :: fields))

/-- READ_PORTALS (R198). -/
def execReadPortals (l : Line) (bc : Bool) (fields : List Byte) (s : State) : Host.Outcome State Fault Refusal :=
  .next (s.request l bc (Kind.readPortals.code :: fields))

/-- READ_PART (R202). -/
def execReadPart (l : Line) (bc : Bool) (fields : List Byte) (s : State) : Host.Outcome State Fault Refusal :=
  .next (s.request l bc (Kind.readPart.code :: fields))

/-- SAVE (R208). -/
def execSave (l : Line) (bc : Bool) (fields : List Byte) (s : State) : Host.Outcome State Fault Refusal :=
  .next (s.request l bc (Kind.save.code :: fields))

/-- UNKNOWN_KIND (R193): the line port answers BAD_KIND, and no block receives the request. -/
def execUnknownKind (l : Line) (bc : Bool) (kind : Byte) (fields : List Byte) (s : State) :
    Host.Outcome State Fault Refusal :=
  .next (s.request l bc (kind :: fields))

end Sys2Proof.Machine
end

