-- ==== Sys2Proof/Machine/Clock.lean ====
section
/-! DEFINITION. The part's own clock: what one period of the 16 MHz clock does to the timers and counters of every
block when nothing arrives from outside, and which events fall due at it [log 5]. A timer that reaches its end stays at
its last count and its event is put in the queue; the event itself loads or stops the timer. During such a period every
line is quiet and every input pin keeps its level [log 18, log 19]. -/

namespace Sys2Proof.Machine

/-- The bit rate of the line rate straps (R181). -/
def bitRate (rate : BitVec 2) : Nat :=
  match rate.toNat with
  | 0 => 9600
  | 1 => 19200
  | 2 => 38400
  | _ => 57600

/-- Whether `clocks` periods of 16 MHz last at least `n` character times of eleven bits (R182). DESIGN CHOICE: the times are
compared exactly, without rounding of the bit time. [log 31] -/
def lastsChars (rate : BitVec 2) (n clocks : Nat) : Bool := n * 11 * Config.clockHz ≤ clocks * bitRate rate

/-- Portal unit `p`: the clocks of the present tick; TICK falls due each 100 ms (R1). -/
def PortalUnit.clock (p : Portal) (u : PortalUnit) : PortalUnit × List Instr :=
  if Config.clocksPer100ms ≤ u.tickPhase + 1 then (u, [.tick p]) else ({ u with tickPhase := u.tickPhase + 1 }, [])

/-- The interval timer of Photometer `p`: it counts milliseconds; its expiry falls due at 0 (R28). -/
def Photometer.intervalClock (p : Portal) (m : Photometer) : Photometer × List Instr :=
  match m.interval with
  | none => (m, [])
  | some t =>
    if Config.clocksPerMs ≤ m.msPhase + 1 then
      if t ≤ 1 then (m, [.intervalTimerExpiry p]) else ({ m with interval := some (t - 1), msPhase := 0 }, [])
    else ({ m with msPhase := m.msPhase + 1 }, [])

/-- The capture clock of Photometer `p`, no edge being detected at it: the edge window or the capture count advances, and
the timeouts fall due at 65,536 (R30 to R33). A timeout carries the clock at which it falls due. -/
def Photometer.captureClock (p : Portal) (m : Photometer) : Photometer × List Instr :=
  let m1 := m.passClocks 1
  match m.state with
  | .off => (m1, [])
  | .waiting => (m1, [])
  | .armed =>
    if Config.captureLimit ≤ m.edgeWindow + 1 then (m, [.firstEdgeTimeout p])
    else ({ m1 with edgeWindow := m.edgeWindow + 1 }, [])
  | .counting =>
    if Config.captureLimit ≤ m.captureCount + 1 then (m, [.countOverflowTimeout p])
    else ({ m1 with captureCount := m.captureCount + 1 }, [])

/-- Photometer `p` at one clock; `capture` says whether it is a tick of the 1 MHz capture clock. -/
def Photometer.clock (p : Portal) (capture : Bool) (m : Photometer) : Photometer × List Instr :=
  let x := m.intervalClock p
  if capture then
    let y := x.1.captureClock p
    (y.1, y.2 ++ x.2)
  else x

/-- The claim check timer: CLAIM_CHECK falls due each 100 ms (R107). -/
def ClaimTable.clock (t : ClaimTable) : ClaimTable × List Instr :=
  if Config.clocksPer100ms ≤ t.phase + 1 then (t, [.claimCheck]) else ({ t with phase := t.phase + 1 }, [])

/-- The pass timer: it counts units of 100 ms; LEVEL_PASS falls due at 0 (R70). -/
def ZoneEngine.clock (e : ZoneEngine) : ZoneEngine × List Instr :=
  if Config.clocksPer100ms ≤ e.passPhase + 1 then
    if e.passTimer ≤ 1 then (e, [.levelPass]) else ({ e with passTimer := e.passTimer - 1, passPhase := 0 }, [])
  else ({ e with passPhase := e.passPhase + 1 }, [])

/-- The sample timer: SAMPLE_EVENT falls due each 1 ms with the pins as last presented (R133). -/
def SafetyInputs.sampleClock (pins : Pins) (x : SafetyInputs) : SafetyInputs × List Instr :=
  if Config.clocksPerMs ≤ x.samplePhase + 1 then (x, [.sampleEvent pins.fireN pins.backupN])
  else ({ x with samplePhase := x.samplePhase + 1 }, [])

/-- The TRIP qualification: the accepted change falls due at 1 µs (R141). -/
def SafetyInputs.tripClock (x : SafetyInputs) : SafetyInputs × List Instr :=
  match x.qualifying with
  | none => (x, [])
  | some t =>
    if Config.clocksPerUs ≤ t + 1 then (x, [if x.trip then .tripReleaseAccepted else .tripAssertionAccepted])
    else ({ x with qualifying := some (t + 1) }, [])

/-- The safety inputs at one clock. -/
def SafetyInputs.clock (pins : Pins) (x : SafetyInputs) : SafetyInputs × List Instr :=
  let y := x.sampleClock pins
  let z := y.1.tripClock
  (z.1, z.2 ++ y.2)

/-- The PWM counter at a tick of the 4 MHz clock: the period end, and with the active repetition the refresh, fall due
at the end of the active period (R149, R150). -/
def Stage.clock (pins : Pins) (x : Stage) : Stage × List Instr :=
  if x.period ≤ x.counter + 1 then
    (x, [if x.repetition ≤ x.refreshCount + 1 then .refresh pins.flt else .periodEnd])
  else ({ x with counter := x.counter + 1 }, [])

/-- Line port `l`: the silence timer and the reply being sent; GAP_TIMEOUT falls due at 3 character times,
TURNAROUND_SILENCE at 2, REPLY_END when every character has been sent (R185, R188, R189). -/
def LinePort.clock (l : Line) (rate : BitVec 2) (x : LinePort) : LinePort × List Instr :=
  match x.state with
  | .listen => (x, [])
  | .collect =>
    let t := x.silence.getD 0 + 1
    if lastsChars rate 3 t then (x, [.gapTimeout l]) else ({ x with silence := some t }, [])
  | .turnaround =>
    let t := x.silence.getD 0 + 1
    if lastsChars rate 2 t then (x, [.turnaroundSilence l]) else ({ x with silence := some t }, [])
  | .reply =>
    if lastsChars rate x.reply.length (x.sent + 1) then (x, [.replyEnd l]) else ({ x with sent := x.sent + 1 }, [])

/-- A save in progress: the steps fall due after 12 ms a page, 512 times 40 µs, 0.552 ms; each 40 µs programs one byte
(R209). What the memory reads back is a free value. [log 13] -/
def Store.clock (free : Nat) (x : Store) : Store × List Instr :=
  let later := { x with phase := x.phase + 1 }
  match x.state with
  | .idle => (x, [])
  | .erasing => if Config.eraseClocks ≤ x.phase + 1 then (x, [.pageErased]) else (later, [])
  | .programming =>
    if x.phase + 1 < Config.programClocks then (later, [])
    else if Config.imageSize ≤ x.index + 1 then (x, [.programmingComplete])
    else
      ({ x with
          image := x.image.set x.index ((x.snapshot.getD x.image).getD x.index 0xFF)
          index := x.index + 1
          phase := 0 }, [])
  | .verifying =>
    if Config.verifyClocks ≤ x.phase + 1 then
      (x, [.verifyComplete (Config.readBackDiffers free) (Config.markerReadBack free)])
    else (later, [])

/-- Whether the clock ends a verification, so that free values are taken. -/
def Store.takesFree (x : Store) : Bool := x.state == .verifying && Config.verifyClocks ≤ x.phase + 1

/-- The power-on delay: POWER_ON stops standing 2 ms after VDD first rose (R210). -/
def Monitor.clock (m : Monitor) : Monitor × List Instr :=
  match m.powerTimer with
  | none => (m, [])
  | some t =>
    if Config.powerOnClocks ≤ t + 1 then (m, [.resetRelease .powerOn]) else ({ m with powerTimer := some (t + 1) }, [])

/-- The start-up wait: START_UP falls due after 65,536 clocks, with the strap pins as last presented (R211). -/
def Monitor.waitClock (pins : Pins) (m : Monitor) : Monitor × List Instr :=
  if Config.startUpWait ≤ m.waitClocks + 1 then (m, [.startUp pins.address pins.rate])
  else ({ m with waitClocks := m.waitClocks + 1 }, [])

/-- One clock of a part held in reset (R210). -/
def State.clockHeld (s : State) : State :=
  let m := s.monitor.clock
  { s with monitor := m.1, pending := s.pending ++ m.2 }

/-- One clock of the start-up wait (R133, R147, R211). DESIGN CHOICE: a TRIP change or a sample event that falls due at the
clock that ends the wait stands before START_UP, one of the two orders of R211; the other is a run of commands. [log 11] -/
def State.clockWait (s : State) : State :=
  let x := s.safety.clock s.pins
  let m := s.monitor.waitClock s.pins
  { s with safety := x.1, monitor := m.1, pending := s.pending ++ x.2 ++ m.2 }

/-- One clock of a started part. -/
def State.clockRun (s : State) : State :=
  let d := (s.monitor.divider + 1) % Config.clocksPerUs
  let x := s.safety.clock s.pins
  let ua := s.portals.a.clock .a
  let ub := s.portals.b.clock .b
  let ma := s.photometers.a.clock .a (d == 0)
  let mb := s.photometers.b.clock .b (d == 0)
  let c := s.claims.clock
  let e := s.engine.clock
  let o := if d % Config.clocksPerPwm = 0 then s.stage.clock s.pins else (s.stage, [])
  let la := s.lines.a.clock .a s.straps.rate
  let lb := s.lines.b.clock .b s.straps.rate
  let ls := s.lines.s.clock .s s.straps.rate
  let st := s.store.clock s.freeCount
  { s with
    monitor := { s.monitor with divider := d }
    safety := x.1
    portals := ⟨ua.1, ub.1⟩
    photometers := ⟨ma.1, mb.1⟩
    claims := c.1
    engine := e.1
    stage := o.1
    lines := ⟨la.1, lb.1, ls.1⟩
    store := st.1
    freeCount := if s.store.takesFree then s.freeCount + 1 else s.freeCount
    pending := s.pending ++ x.2 ++ ua.2 ++ ub.2 ++ ma.2 ++ mb.2 ++ c.2 ++ e.2 ++ o.2 ++ la.2 ++ lb.2 ++ ls.2 ++ st.2 }

/-- One period of the 16 MHz clock in which nothing arrives from outside. -/
def State.clock (s : State) : State :=
  match s.monitor.phase with
  | .held => s.clockHeld
  | .wait => s.clockWait
  | .run => s.clockRun

end Sys2Proof.Machine
end

