-- ==== Sys2Proof/Machine/Arrivals.lean ====
section
/-! DEFINITION. The arrival of a photometer's figure at its portal unit (01_portal_luminance R10, 02_local_photometer_capture
R36, R42), also where an adoption comes at the same moment. -/

namespace Sys2Proof.Machine

/-- The running plan once the waiting command `c` has been taken: ADOPT, and the CHECK of its frame sent character by
character, can replace it (R64). No other command that can wait behind an edge adopts a plan. -/
def State.planAfter (s : State) (c : Instr) : Plan :=
  match c with
  | .adopt l bc fields => (s.request l bc (Kind.adopt.code :: fields)).plans.running
  | .dataCharacter l v => if s.started then (s.dataChar l v).plans.running else s.plans.running
  | _ => s.plans.running

/-- Whether a command is an edge of the photometer that is not `p`. -/
def isOtherEdge (p : Portal) (c : Instr) : Bool :=
  match c with
  | .phinRisingEdge q _ => q != p
  | _ => false

/-- The running plan that gives the mode when the figure of Photometer `p` arrives at its portal unit. Taken before an
adoption, the completion "reads the old running plan throughout" (R67). The exception is an adoption of the same moment that
puts the photometer into OFF: there "the portal unit takes the figure under the new mode" (R42, R10). Commands that wait in
the queue are taken with no clock between them, so an adoption that waits behind the completing edge (or behind it and the
other photometer's) comes at its moment. [log 25] -/
def State.planAtArrival (s : State) (p : Portal) : Plan :=
  match s.pending.dropWhile (isOtherEdge p) with
  | [] => s.plans.running
  | c :: _ => if ((s.planAfter c).portals.get p).photometerOff then s.planAfter c else s.plans.running

/-- A photometer's figure, if there is one, reaches its portal unit as a local sample under the source mode `mode` (R10,
R36). -/
def State.handOverFigure (s : State) (p : Portal) (mode : SourceMode) (figure : Option Nat) : State :=
  match figure with
  | none => s
  | some lum => s.setPortal p ((s.portals.get p).localSample mode lum)

/-- PHIN_RISING_EDGE (R30 to R36), with the arrival of the figure of a completed measurement (R10, R42, R67). [log 12, log
25] -/
def execPhinRisingEdge (p : Portal) (clocks : Nat) (s : State) : Host.Outcome State Fault Refusal :=
  let x := (s.photometers.get p).edge clocks
  .next
    (if s.started then (s.setPhotometer p x.1).handOverFigure p ((s.planAtArrival p).portals.get p).mode x.2 else s)

end Sys2Proof.Machine
end

