-- ==== Sys2Proof/Machine/Dispatch.lean ====
section
/-! DEFINITION. The meaning of every command: one arm for each constructor, one direct call of its meaning. -/

namespace Sys2Proof.Machine

/-- The effect of a command on everything but the queue. -/
def exec (i : Instr) (s : State) : Host.Outcome State Fault Refusal :=
  match i with
  | .tick p => Sys2Proof.Machine.execTick p s
  | .holdTimerExpiry p => Sys2Proof.Machine.execHoldTimerExpiry p s
  | .report l bc fields => Sys2Proof.Machine.execReport l bc fields s
  | .intervalTimerExpiry p => Sys2Proof.Machine.execIntervalTimerExpiry p s
  | .phinRisingEdge p clocks => Sys2Proof.Machine.execPhinRisingEdge p clocks s
  | .firstEdgeTimeout p => Sys2Proof.Machine.execFirstEdgeTimeout p s
  | .countOverflowTimeout p => Sys2Proof.Machine.execCountOverflowTimeout p s
  | .draftLoad l bc fields => Sys2Proof.Machine.execDraftLoad l bc fields s
  | .draftPut l bc fields => Sys2Proof.Machine.execDraftPut l bc fields s
  | .adopt l bc fields => Sys2Proof.Machine.execAdopt l bc fields s
  | .planRead l bc fields => Sys2Proof.Machine.execPlanRead l bc fields s
  | .levelPass => Sys2Proof.Machine.execLevelPass s
  | .setDirection l bc fields => Sys2Proof.Machine.execSetDirection l bc fields s
  | .readZones l bc fields => Sys2Proof.Machine.execReadZones l bc fields s
  | .claim l bc fields => Sys2Proof.Machine.execClaim l bc fields s
  | .release l bc fields => Sys2Proof.Machine.execRelease l bc fields s
  | .withdraw l bc fields => Sys2Proof.Machine.execWithdraw l bc fields s
  | .claimCheck => Sys2Proof.Machine.execClaimCheck s
  | .claimExpiry => Sys2Proof.Machine.execClaimExpiry s
  | .readClaims l bc fields => Sys2Proof.Machine.execReadClaims l bc fields s
  | .sampleEvent fireN backupN => Sys2Proof.Machine.execSampleEvent fireN backupN s
  | .clearFire l bc fields => Sys2Proof.Machine.execClearFire l bc fields s
  | .ackEvents l bc fields => Sys2Proof.Machine.execAckEvents l bc fields s
  | .tripPinChange high => Sys2Proof.Machine.execTripPinChange high s
  | .tripAssertionAccepted => Sys2Proof.Machine.execTripAssertionAccepted s
  | .tripReleaseAccepted => Sys2Proof.Machine.execTripReleaseAccepted s
  | .periodEnd => Sys2Proof.Machine.execPeriodEnd s
  | .refresh flt => Sys2Proof.Machine.execRefresh flt s
  | .clearTrip l bc fields => Sys2Proof.Machine.execClearTrip l bc fields s
  | .readChannels l bc fields => Sys2Proof.Machine.execReadChannels l bc fields s
  | .clearFaults l bc fields => Sys2Proof.Machine.execClearFaults l bc fields s
  | .addressCharacter l value => Sys2Proof.Machine.execAddressCharacter l value s
  | .dataCharacter l value => Sys2Proof.Machine.execDataCharacter l value s
  | .framingError l => Sys2Proof.Machine.execFramingError l s
  | .gapTimeout l => Sys2Proof.Machine.execGapTimeout l s
  | .turnaroundSilence l => Sys2Proof.Machine.execTurnaroundSilence l s
  | .replyEnd l => Sys2Proof.Machine.execReplyEnd l s
  | .unknownKind l bc kind fields => Sys2Proof.Machine.execUnknownKind l bc kind fields s
  | .clearCounts l bc fields => Sys2Proof.Machine.execClearCounts l bc fields s
  | .readPortals l bc fields => Sys2Proof.Machine.execReadPortals l bc fields s
  | .readPart l bc fields => Sys2Proof.Machine.execReadPart l bc fields s
  | .save l bc fields => Sys2Proof.Machine.execSave l bc fields s
  | .pageErased => Sys2Proof.Machine.execPageErased s
  | .programmingComplete => Sys2Proof.Machine.execProgrammingComplete s
  | .verifyComplete differs marker => Sys2Proof.Machine.execVerifyComplete differs marker s
  | .resetEntry cause => Sys2Proof.Machine.execResetEntry cause s
  | .resetRelease cause => Sys2Proof.Machine.execResetRelease cause s
  | .startUp address rate => Sys2Proof.Machine.execStartUp address rate s

end Sys2Proof.Machine
end

