-- ==== Sys2Proof/Machine/Pins.lean ====
section
/-! DEFINITION. The output pins as functions of the state: the dimming outputs (08_output_channels R155, R158), the
driver enables and transmit data of the lines (10_field_lines R182, R189, R192). -/

namespace Sys2Proof.Machine

/-- What an output pin shows. -/
inductive PinLevel
  | highImpedance
  | low
  | high
deriving DecidableEq, Repr

/-- The active or inactive level of a polarity (R155). -/
def Polarity.level (p : Polarity) (active : Bool) : PinLevel :=
  match p with
  | .activeHigh => if active then .high else .low
  | .activeLow => if active then .low else .high

/-- Whether a channel's pin is active at a counter value (R155). -/
def ChannelOut.activeAt (period counter : Nat) (c : ChannelOut) : Bool :=
  match c.alignment with
  | .leading => counter < c.duty
  | .trailing => period - c.duty ≤ counter

/-- What a DIM pin shows in each stage state (R155, R156, R158). -/
def Stage.pin (x : Stage) (c : ChannelOut) : PinLevel :=
  match x.state with
  | .released => .highImpedance
  | .running => c.polarity.level (c.activeAt x.period x.counter)
  | .tripped => c.polarity.level (c.trip == .full)

/-- The level of pin DIMn, for a channel number `n` of 0 to 31. -/
def State.dimPin (s : State) (n : Nat) : PinLevel :=
  match s.stage.chans[n]? with
  | some c => s.stage.pin c
  | none => .highImpedance

/-- The driver enable of line `l`: asserted in REPLY alone (R189, R192). -/
def State.driverEnable (s : State) (l : Line) : Bool := (s.lines.get l).state == .reply

/-- Bit time `i` (0 to 10) of a character: start bit low, data bits least significant first, mark bit, stop bit high
(R182). -/
def charBit (mark : Bool) (value : Byte) (i : Nat) : Bool :=
  if i = 0 then false else if i ≤ 8 then value.getLsbD (i - 1) else if i = 9 then mark else true

/-- The level of transmit data of line `l`: high at rest; in REPLY the bit of the reply frame reached, the first character
with mark bit 1 (R182, R189, R192). DESIGN CHOICE: a bit stands from the first whole clock by which its time has come. [log
31] -/
def State.transmitData (s : State) (l : Line) : Bool :=
  let x := s.lines.get l
  if x.state = .reply then
    let bit := x.sent * bitRate s.straps.rate / Config.clockHz
    match x.reply[bit / 11]? with
    | some value => charBit (bit / 11 == 0) value (bit % 11)
    | none => true
  else true

end Sys2Proof.Machine
end

