-- ==== Sys2Proof/Safety.lean ====
section
/-! DEFINITION. The terms in which statements are made: when a frame reaches the part, and the invariants of each kind of
state, from the sentences of the spec that hold of every state. -/

namespace Sys2Proof.Machine

/-! ### When a frame reaches the part -/

/-- A frame on line `l`, addressed to the part or broadcast, reaches its port: the part is started and the port is not
sending (R182, R192). -/
abbrev State.Hears (s : State) (l : Line) : Prop := s.started = true ∧ (s.lines.get l).state ≠ .reply

/-- A frame addressed to the part reaches its port: the part hears the line and is no listen-only part (R181). -/
abbrev State.Reached (s : State) (l : Line) : Prop := s.Hears l ∧ s.straps.address ≠ 0

/-- The outcome of an addressed request on line `l` that is answered with `r` alone: beside the port nothing changes. -/
def State.repliedOnly (s : State) (l : Line) (kind : Byte) (r : Result) : State :=
  (s.addressed l false).answered l kind (.plain r)

/-- The command of a listed request kind. -/
def Kind.command (k : Kind) (l : Line) (bc : Bool) (fields : List Byte) : Instr :=
  match k with
  | .report => .report l bc fields
  | .readPortals => .readPortals l bc fields
  | .readZones => .readZones l bc fields
  | .readChannels => .readChannels l bc fields
  | .readClaims => .readClaims l bc fields
  | .readPart => .readPart l bc fields
  | .claim => .claim l bc fields
  | .release => .release l bc fields
  | .withdraw => .withdraw l bc fields
  | .setDirection => .setDirection l bc fields
  | .clearFire => .clearFire l bc fields
  | .clearTrip => .clearTrip l bc fields
  | .ackEvents => .ackEvents l bc fields
  | .clearFaults => .clearFaults l bc fields
  | .clearCounts => .clearCounts l bc fields
  | .planRead => .planRead l bc fields
  | .draftLoad => .draftLoad l bc fields
  | .draftPut => .draftPut l bc fields
  | .adopt => .adopt l bc fields
  | .save => .save l bc fields

/-- The state after the characters of a list arrive on line `l` as data characters, one command each. -/
def State.feed (s : State) (l : Line) : List Byte → Host.Outcome State Fault Refusal
  | [] => .next s
  | v :: rest =>
    match exec (.dataCharacter l v) s with
    | .next t => t.feed l rest
    | .fault r => .fault r
    | .refused r => .refused r

/-- The state after a whole frame arrives on line `l` character by character. -/
def State.feedFrame (s : State) (l : Line) : List Byte → Host.Outcome State Fault Refusal
  | [] => .next s
  | a :: rest =>
    match exec (.addressCharacter l a) s with
    | .next t => t.feed l rest
    | .fault r => .fault r
    | .refused r => .refused r

/-! ### Invariants -/

/-- Both plans are in range and the running plan passes every condition of validation (R44, R52). -/
abbrev PlansSound (s : State) : Prop :=
  s.plans.running.inRange = true ∧ s.plans.running.valid = true ∧ s.plans.draft.inRange = true

/-- A portal unit: at most 8 samples; LIVE exactly with a sample in the window; the hold timer runs exactly in HOLD (R3,
R20, R21, R22). -/
abbrev UnitSound (u : PortalUnit) : Prop :=
  u.window.length ≤ 8 ∧ (u.state = .live ↔ u.window ≠ []) ∧ (u.holdTimer.isSome = true ↔ u.state = .hold)

/-- Both portal units are sound. -/
abbrev PortalsSound (s : State) : Prop := UnitSound s.portals.a ∧ UnitSound s.portals.b

/-- Every luminance a portal unit holds is at most 9999 (R2, R10, R19). -/
abbrev UnitBounded (u : PortalUnit) : Prop :=
  (∀ x ∈ u.window, x.value ≤ 9999) ∧ u.effLum ≤ 9999 ∧ u.heldLum ≤ 9999 ∧ u.defaultLum ≤ 9999
    ∧ u.lastLocal.getD 0 ≤ 9999

/-- Every luminance of both portal units is at most 9999. -/
abbrev LuminancesBounded (s : State) : Prop := UnitBounded s.portals.a ∧ UnitBounded s.portals.b

/-- A claim record: id 0 to 7, level at most 1000, a timed claim's remaining time 1 to 36,000, and a claim of Line A or
Line B a timed FLOOR (R94, R99). -/
abbrev ClaimSound (c : Claim) : Prop :=
  c.id ≤ 7 ∧ c.level ≤ 1000 ∧ (c.remaining = none ∨ (1 ≤ c.time ∧ c.time ≤ 36000))
    ∧ (c.owner = .s ∨ (c.kind = .floor ∧ c.remaining ≠ none))

/-- The key of a claim (R94). -/
def Claim.key (c : Claim) : Line × Nat := (c.owner, c.id)

/-- "The claim table never holds more than 16 claims, nor two with the same owner line and claim id" (R95), and each of
its claims is sound. -/
abbrev ClaimsSound (s : State) : Prop :=
  s.claims.table.length ≤ 16 ∧ (s.claims.table.map Claim.key).Nodup ∧ ∀ c ∈ s.claims.table, ClaimSound c

/-- "Every zone's target and applied level are always within 0 to 1000" (R115). -/
abbrev LevelsSound (s : State) : Prop := ∀ x ∈ s.engine.zones, x.target ≤ 1000 ∧ x.applied ≤ 1000

/-- "A channel's active duty count is never greater than the active period count" (R154). -/
abbrev DutiesSound (s : State) : Prop := ∀ c ∈ s.stage.chans, c.duty ≤ s.stage.period

/-- "A filtered FIRE state of ASSERTED always stands with the fire latch set" (R136). -/
abbrev LatchSound (s : State) : Prop := s.safety.fire.asserted = true → s.safety.latch = true

/-- While TRIP is ASSERTED and the plan is loaded the stage is TRIPPED with no resume pending (R158, R164). -/
abbrev TripSound (s : State) : Prop :=
  s.safety.trip = true ∧ s.stage.planLoaded = true → s.stage.state = .tripped ∧ s.stage.resume = false

/-- "A channel can be FAULTED only while it is bound and its fault sense is ON" (R176). -/
abbrev FaultsSound (s : State) : Prop :=
  ∀ x ∈ s.plans.running.channels.zip s.faults, x.2.state = .faulted → x.1.zone ≠ none ∧ x.1.sense = true

/-- A line port's frame buffer: empty outside COLLECT; in COLLECT the address character, then a LEN of 1 to 60, then at
most LEN further characters (R185); both counters at most 65,535 (R190). -/
abbrev PortSound (x : LinePort) : Prop :=
  x.rejected ≤ 65535 ∧ x.dropped ≤ 65535
    ∧ (x.state ≠ .collect → x.frame = [])
    ∧ (x.state = .collect →
        x.frame.length = 1
          ∨ (2 ≤ x.frame.length ∧ 1 ≤ (x.frame.getD 1 0).toNat ∧ (x.frame.getD 1 0).toNat ≤ 60
              ∧ x.frame.length ≤ (x.frame.getD 1 0).toNat + 2))

/-- Every line port is sound. -/
abbrev PortsSound (s : State) : Prop := PortSound s.lines.a ∧ PortSound s.lines.b ∧ PortSound s.lines.s

/-- A port of a listen-only part: in LISTEN, or in COLLECT with a broadcast frame (R181). -/
abbrev PortSilent (x : LinePort) : Prop :=
  x.state = .listen ∨ (x.state = .collect ∧ x.frame.head? = some 0)

/-- A listen-only part never enters TURNAROUND or REPLY on any line (R181). -/
abbrev ListenOnlySilent (s : State) : Prop :=
  s.straps.address = 0 → PortSilent s.lines.a ∧ PortSilent s.lines.b ∧ PortSilent s.lines.s

/-- While a save is in flight its snapshot holds the pending marker, and once page 0 is erased byte 1 of the image is not
the committed marker's (R208, R209). -/
abbrev SaveUncommitted (s : State) : Prop :=
  s.store.state ≠ .idle →
    (s.store.snapshot.getD [])[1]? ≠ some 0x5A
      ∧ ((s.store.state = .erasing ∧ s.store.index = 0) ∨ s.store.image[1]? ≠ some 0x5A)

end Sys2Proof.Machine
end

