-- ==== Sys2Proof/Certificates/Slice0/Obligations.lean ====
section
/-! DEFINITION. The statements for the provers. A statement about a request says what the whole frame does when it
reaches the part (`State.Reached`): `s.addressed l bc` is the state once the frame's address character has been taken,
`(…).answered l kind a` the state once the reply with the answer `a` is held. Equations of whole states say the frame:
everything not named is as before. -/

open Sys2Proof Sys2Proof.Machine

/-! ### The queue and the clock -/

/-- A step takes the command at the front of the queue, with the queue's rest. -/
def Obligations.StepTakesTheFrontCommand : Prop :=
  ∀ (c : Instr) (rest : List Instr) (s : State),
    step { s with pending := c :: rest } = exec c { s with pending := rest }

/-- No command changes the queue. -/
def Obligations.CommandsLeaveTheQueue : Prop :=
  ∀ (c : Instr) (s t : State), exec c s = .next t → t.pending = s.pending

/-- The model's choice (log 5): on an empty queue a clock passes. In a started part it moves timers and counters and, of
the stored image, the byte that ends its 40 µs in PROGRAMMING, and nothing else; in a part held in reset it moves the 2 ms
of POWER_ON, whose end falls due as RESET_RELEASE; in the start-up wait it moves the wait, whose end falls due as START_UP,
the sample timer and the TRIP qualification. -/
def Obligations.EmptyQueueStepMovesOnlyTimers : Prop :=
  (∀ (s : State), s.started = true → s.pending = [] →
    ∃ t, step s = .next t
      ∧ t.plans = s.plans ∧ t.straps = s.straps ∧ t.pins = s.pins ∧ t.faults = s.faults
      ∧ t.claims.table = s.claims.table
      ∧ t.engine = { s.engine with passTimer := t.engine.passTimer, passPhase := t.engine.passPhase }
      ∧ t.stage = { s.stage with counter := t.stage.counter }
      ∧ t.safety = { s.safety with qualifying := t.safety.qualifying, samplePhase := t.safety.samplePhase }
      ∧ (∀ p, t.portals.get p = { s.portals.get p with tickPhase := (t.portals.get p).tickPhase })
      ∧ (∀ p, t.photometers.get p =
          { s.photometers.get p with
            interval := (t.photometers.get p).interval, msPhase := (t.photometers.get p).msPhase,
            edgeWindow := (t.photometers.get p).edgeWindow, captureCount := (t.photometers.get p).captureCount,
            sinceEdge := (t.photometers.get p).sinceEdge })
      ∧ (∀ l, t.lines.get l =
          { s.lines.get l with silence := (t.lines.get l).silence, sent := (t.lines.get l).sent })
      ∧ t.store =
          { s.store with
            image :=
              if s.store.state = .programming ∧ 640 ≤ s.store.phase + 1 ∧ s.store.index + 1 < 512 then
                s.store.image.set s.store.index ((s.store.snapshot.getD s.store.image).getD s.store.index 0xFF)
              else s.store.image
            index := t.store.index, phase := t.store.phase }
      ∧ t.monitor = { s.monitor with divider := t.monitor.divider })
  ∧ (∀ (s : State), s.monitor.phase = .held → s.pending = [] →
    step s = .next
      (match s.monitor.powerTimer with
        | none => s
        | some n =>
          if 32000 ≤ n + 1 then { s with pending := [.resetRelease .powerOn] }
          else { s with monitor := { s.monitor with powerTimer := some (n + 1) } }))
  ∧ (∀ (s : State), s.monitor.phase = .wait → s.pending = [] →
    ∃ t, step s = .next t
      ∧ t =
        { s with
          monitor := { s.monitor with
            waitClocks := if 65536 ≤ s.monitor.waitClocks + 1 then s.monitor.waitClocks else s.monitor.waitClocks + 1 }
          safety := { s.safety with
            samplePhase := if 16000 ≤ s.safety.samplePhase + 1 then s.safety.samplePhase else s.safety.samplePhase + 1
            qualifying := s.safety.qualifying.map fun n => if 16 ≤ n + 1 then n else n + 1 }
          pending := t.pending }
      ∧ (Instr.startUp s.pins.address s.pins.rate ∈ t.pending ↔ 65536 ≤ s.monitor.waitClocks + 1)
      ∧ (Instr.sampleEvent s.pins.fireN s.pins.backupN ∈ t.pending ↔ 16000 ≤ s.safety.samplePhase + 1)
      ∧ (Instr.tripAssertionAccepted ∈ t.pending ↔
          s.safety.trip = false ∧ ∃ n, s.safety.qualifying = some n ∧ 16 ≤ n + 1))

/-- The model's choice (log 5): each timer of a started part advances by one at its own clock and stays at its last count
when its event falls due: ticks, claim checks and the units of the pass timer at the 1,600,000th clock, samples and the
milliseconds of the interval timers at the 16,000th, the accepted TRIP change at the 16th; the capture clock is every 16th
clock, the PWM clock every 4th; the line timers fall due at 3 and 2 character times and at the end of the reply, the save
steps at 12 ms, 512 times 40 µs and 0.552 ms. A line timer falls due at the first whole clock by which its time has passed (log
31). -/
def Obligations.TimersFallDueAtTheirCounts : Prop :=
  (∀ (s t : State), s.started = true → s.pending = [] → step s = .next t →
    (∀ p, (Instr.tick p ∈ t.pending ↔ 1600000 ≤ (s.portals.get p).tickPhase + 1)
        ∧ (t.portals.get p).tickPhase =
          if 1600000 ≤ (s.portals.get p).tickPhase + 1 then (s.portals.get p).tickPhase
          else (s.portals.get p).tickPhase + 1)
      ∧ (Instr.claimCheck ∈ t.pending ↔ 1600000 ≤ s.claims.phase + 1)
      ∧ (t.claims.phase = if 1600000 ≤ s.claims.phase + 1 then s.claims.phase else s.claims.phase + 1)
      ∧ (Instr.levelPass ∈ t.pending ↔ 1600000 ≤ s.engine.passPhase + 1 ∧ s.engine.passTimer ≤ 1)
      ∧ (s.engine.passPhase + 1 < 1600000 →
          t.engine.passTimer = s.engine.passTimer ∧ t.engine.passPhase = s.engine.passPhase + 1)
      ∧ (1600000 ≤ s.engine.passPhase + 1 → 2 ≤ s.engine.passTimer →
          t.engine.passTimer = s.engine.passTimer - 1 ∧ t.engine.passPhase = 0)
      ∧ (1600000 ≤ s.engine.passPhase + 1 → s.engine.passTimer ≤ 1 → t.engine = s.engine)
      ∧ (Instr.sampleEvent s.pins.fireN s.pins.backupN ∈ t.pending ↔ 16000 ≤ s.safety.samplePhase + 1)
      ∧ (t.safety.samplePhase =
          if 16000 ≤ s.safety.samplePhase + 1 then s.safety.samplePhase else s.safety.samplePhase + 1)
      ∧ (Instr.tripAssertionAccepted ∈ t.pending ↔
          s.safety.trip = false ∧ ∃ n, s.safety.qualifying = some n ∧ 16 ≤ n + 1)
      ∧ (Instr.tripReleaseAccepted ∈ t.pending ↔
          s.safety.trip = true ∧ ∃ n, s.safety.qualifying = some n ∧ 16 ≤ n + 1)
      ∧ (t.safety.qualifying = s.safety.qualifying.map fun n => if 16 ≤ n + 1 then n else n + 1)
      ∧ t.monitor.divider = (s.monitor.divider + 1) % 16)
  ∧ (∀ (s t : State) (p : Portal), s.started = true → s.pending = [] → step s = .next t →
    ((s.photometers.get p).interval = none →
        (t.photometers.get p).interval = none ∧ (t.photometers.get p).msPhase = (s.photometers.get p).msPhase)
      ∧ (∀ n, (s.photometers.get p).interval = some n →
          ((s.photometers.get p).msPhase + 1 < 16000 →
              (t.photometers.get p).interval = some n
                ∧ (t.photometers.get p).msPhase = (s.photometers.get p).msPhase + 1)
            ∧ (16000 ≤ (s.photometers.get p).msPhase + 1 → 2 ≤ n →
              (t.photometers.get p).interval = some (n - 1) ∧ (t.photometers.get p).msPhase = 0)
            ∧ (16000 ≤ (s.photometers.get p).msPhase + 1 → n ≤ 1 →
              (t.photometers.get p).interval = some n
                ∧ (t.photometers.get p).msPhase = (s.photometers.get p).msPhase))
      ∧ (Instr.intervalTimerExpiry p ∈ t.pending ↔
          16000 ≤ (s.photometers.get p).msPhase + 1 ∧ ∃ n, (s.photometers.get p).interval = some n ∧ n ≤ 1)
      ∧ ((t.photometers.get p).edgeWindow =
          if (s.monitor.divider + 1) % 16 = 0 ∧ (s.photometers.get p).state = .armed
              ∧ (s.photometers.get p).edgeWindow + 1 < 65536
            then (s.photometers.get p).edgeWindow + 1 else (s.photometers.get p).edgeWindow)
      ∧ ((t.photometers.get p).captureCount =
          if (s.monitor.divider + 1) % 16 = 0 ∧ (s.photometers.get p).state = .counting
              ∧ (s.photometers.get p).captureCount + 1 < 65536
            then (s.photometers.get p).captureCount + 1 else (s.photometers.get p).captureCount)
      ∧ (Instr.firstEdgeTimeout p ∈ t.pending ↔
          (s.monitor.divider + 1) % 16 = 0 ∧ (s.photometers.get p).state = .armed
            ∧ 65536 ≤ (s.photometers.get p).edgeWindow + 1)
      ∧ (Instr.countOverflowTimeout p ∈ t.pending ↔
          (s.monitor.divider + 1) % 16 = 0 ∧ (s.photometers.get p).state = .counting
            ∧ 65536 ≤ (s.photometers.get p).captureCount + 1))
  ∧ (∀ (s t : State), s.started = true → s.pending = [] → step s = .next t →
    (t.stage.counter =
        if (s.monitor.divider + 1) % 4 = 0 ∧ s.stage.counter + 1 < s.stage.period then s.stage.counter + 1
        else s.stage.counter)
      ∧ (Instr.periodEnd ∈ t.pending ↔ (s.monitor.divider + 1) % 4 = 0 ∧ s.stage.period ≤ s.stage.counter + 1
          ∧ s.stage.refreshCount + 1 < s.stage.repetition)
      ∧ (Instr.refresh s.pins.flt ∈ t.pending ↔ (s.monitor.divider + 1) % 4 = 0 ∧ s.stage.period ≤ s.stage.counter + 1
          ∧ s.stage.repetition ≤ s.stage.refreshCount + 1)
      ∧ (s.store.state = .idle → t.store = s.store)
      ∧ (s.store.state = .erasing ∧ s.store.phase + 1 < 192000 ∨ s.store.state = .programming ∧ s.store.phase + 1 < 640
            ∨ s.store.state = .verifying ∧ s.store.phase + 1 < 8832 →
          t.store = { s.store with phase := s.store.phase + 1 })
      ∧ (s.store.state = .programming → 640 ≤ s.store.phase + 1 → s.store.index + 1 < 512 →
          t.store.index = s.store.index + 1 ∧ t.store.phase = 0)
      ∧ (Instr.pageErased ∈ t.pending ↔ s.store.state = .erasing ∧ 192000 ≤ s.store.phase + 1)
      ∧ (Instr.programmingComplete ∈ t.pending ↔
          s.store.state = .programming ∧ 640 ≤ s.store.phase + 1 ∧ 512 ≤ s.store.index + 1)
      ∧ ((∃ differs marker, Instr.verifyComplete differs marker ∈ t.pending) ↔
          s.store.state = .verifying ∧ 8832 ≤ s.store.phase + 1)
      ∧ (s.store.state = .erasing ∧ 192000 ≤ s.store.phase + 1
            ∨ s.store.state = .programming ∧ 640 ≤ s.store.phase + 1 ∧ 512 ≤ s.store.index + 1
            ∨ s.store.state = .verifying ∧ 8832 ≤ s.store.phase + 1 →
          t.store = s.store))
  ∧ (∀ (s t : State) (l : Line), s.started = true → s.pending = [] → step s = .next t →
    ((s.lines.get l).state = .listen → t.lines.get l = s.lines.get l)
      ∧ (∀ n, (s.lines.get l).silence = some n → (s.lines.get l).state = .collect →
          (Instr.gapTimeout l ∈ t.pending ↔ 3 * 11 * 16000000 ≤ (n + 1) * bitRate s.straps.rate)
            ∧ (3 * 11 * 16000000 ≤ (n + 1) * bitRate s.straps.rate → t.lines.get l = s.lines.get l)
            ∧ (¬3 * 11 * 16000000 ≤ (n + 1) * bitRate s.straps.rate →
              t.lines.get l = { s.lines.get l with silence := some (n + 1) }))
      ∧ (∀ n, (s.lines.get l).silence = some n → (s.lines.get l).state = .turnaround →
          (Instr.turnaroundSilence l ∈ t.pending ↔ 2 * 11 * 16000000 ≤ (n + 1) * bitRate s.straps.rate)
            ∧ (2 * 11 * 16000000 ≤ (n + 1) * bitRate s.straps.rate → t.lines.get l = s.lines.get l)
            ∧ (¬2 * 11 * 16000000 ≤ (n + 1) * bitRate s.straps.rate →
              t.lines.get l = { s.lines.get l with silence := some (n + 1) }))
      ∧ ((s.lines.get l).state = .reply →
          (Instr.replyEnd l ∈ t.pending ↔
              (s.lines.get l).reply.length * 11 * 16000000 ≤ ((s.lines.get l).sent + 1) * bitRate s.straps.rate)
            ∧ ((s.lines.get l).reply.length * 11 * 16000000 ≤ ((s.lines.get l).sent + 1) * bitRate s.straps.rate →
              t.lines.get l = s.lines.get l)
            ∧ (¬(s.lines.get l).reply.length * 11 * 16000000 ≤ ((s.lines.get l).sent + 1) * bitRate s.straps.rate →
              t.lines.get l = { s.lines.get l with sent := (s.lines.get l).sent + 1 })))
  ∧ bitRate 0 = 9600 ∧ bitRate 1 = 19200 ∧ bitRate 2 = 38400 ∧ bitRate 3 = 57600

/-! ### Portal units -/

/-- R17 and R18: the used samples (never empty for a window that holds a sample), and the median of any values through any
ascending arrangement of them: one of the values, so within 0 to 9999 where they are. The median of a window is that of
the values of its used samples. -/
def Obligations.MedianOfTheUsedSamples : Prop :=
  (∀ w : List Sample,
    ((∃ x ∈ w, x.quality = .good) → usedSamples w = w.filter fun x => x.quality == .good)
      ∧ ((¬∃ x ∈ w, x.quality = .good) → usedSamples w = w.filter fun x => x.quality == .degraded)
      ∧ (w ≠ [] → usedSamples w ≠ [])
      ∧ windowMedian w = upperMedian ((usedSamples w).map Sample.value))
  ∧ ∀ values sorted : List Nat, values ≠ [] → sorted.Perm values → sorted.Pairwise (· ≤ ·) →
    (values.length % 2 = 1 → sorted[(values.length + 1) / 2 - 1]? = some (upperMedian values))
      ∧ (values.length % 2 = 0 → sorted[values.length / 2 + 1 - 1]? = some (upperMedian values))
      ∧ upperMedian values ∈ values ∧ ((∀ v ∈ values, v ≤ 9999) → upperMedian values ≤ 9999)

/-- A tick advances the time base, takes the working copies, drops from the oldest end every sample older than the sample
life, and clears a station mark older than it; nothing outside the portal unit changes. In a sound unit the portal state,
the held luminance, the hold timer and the effective luminance follow: the median derived again where samples remain, the
hold started where the last one left, the new default luminance in NO_DATA and DEFAULT, one tick less in HOLD and DEFAULT
at its end. -/
def Obligations.TickAgesTheWindow : Prop :=
  ∀ (p : Portal) (s : State), s.started = true →
    ∃ u, exec (.tick p) s = .next (s.setPortal p u)
      ∧ u.timeBase = (s.portals.get p).timeBase + 1
      ∧ u.life = (s.plans.running.portals.get p).sampleLife
      ∧ u.holdTime = (s.plans.running.portals.get p).holdTime
      ∧ u.defaultLum = (s.plans.running.portals.get p).defaultLum
      ∧ u.window = (s.portals.get p).window.dropWhile
          (fun x => 10 * (s.plans.running.portals.get p).sampleLife < (u.timeBase - x.arrival).toNat)
      ∧ (∀ m, u.mark = some m ↔ (s.portals.get p).mark = some m
          ∧ (u.timeBase - m).toNat ≤ 10 * (s.plans.running.portals.get p).sampleLife)
      ∧ u.lastLocal = (s.portals.get p).lastLocal
      ∧ u.tickPhase = 0
      ∧ (UnitSound (s.portals.get p) →
        (u.window ≠ [] → u.state = .live ∧ u.effLum = windowMedian u.window ∧ u.holdTimer = none
            ∧ u.heldLum = (s.portals.get p).heldLum)
          ∧ ((s.portals.get p).window ≠ [] → u.window = [] → u.heldLum = (s.portals.get p).effLum
            ∧ (0 < (s.plans.running.portals.get p).holdTime →
                u.state = .hold ∧ u.holdTimer = some (10 * (s.plans.running.portals.get p).holdTime)
                  ∧ u.effLum = (s.portals.get p).effLum)
            ∧ ((s.plans.running.portals.get p).holdTime = 0 →
                u.state = .fallback ∧ u.holdTimer = none
                  ∧ u.effLum = (s.plans.running.portals.get p).defaultLum))
          ∧ ((s.portals.get p).state = .noData ∨ (s.portals.get p).state = .fallback →
            u.state = (s.portals.get p).state ∧ u.holdTimer = none ∧ u.heldLum = (s.portals.get p).heldLum
              ∧ u.effLum = (s.plans.running.portals.get p).defaultLum)
          ∧ (∀ c, (s.portals.get p).holdTimer = some c → u.heldLum = (s.portals.get p).heldLum
            ∧ (2 ≤ c → u.state = .hold ∧ u.holdTimer = some (c - 1) ∧ u.effLum = (s.portals.get p).heldLum)
            ∧ (c ≤ 1 → u.state = .fallback ∧ u.holdTimer = none
                ∧ u.effLum = (s.plans.running.portals.get p).defaultLum)))

/-- A tick at which every sample of a LIVE portal is older than the sample life: the held luminance is the effective
luminance that stood before; HOLD with the timer started at 10 × hold time, or DEFAULT at once for a hold time of 0. -/
def Obligations.AgedOutPortalHoldsItsFigure : Prop :=
  ∀ (p : Portal) (s : State), s.started = true → UnitSound (s.portals.get p) → (s.portals.get p).state = .live →
    (∀ x ∈ (s.portals.get p).window,
      10 * (s.plans.running.portals.get p).sampleLife < ((s.portals.get p).timeBase + 1 - x.arrival).toNat) →
    ∃ u, exec (.tick p) s = .next (s.setPortal p u)
      ∧ u.window = [] ∧ u.heldLum = (s.portals.get p).effLum
      ∧ (0 < (s.plans.running.portals.get p).holdTime →
          u.state = .hold ∧ u.holdTimer = some (10 * (s.plans.running.portals.get p).holdTime)
            ∧ u.effLum = (s.portals.get p).effLum)
      ∧ ((s.plans.running.portals.get p).holdTime = 0 →
          u.state = .fallback ∧ u.holdTimer = none ∧ u.effLum = (s.plans.running.portals.get p).defaultLum)

/-- A hold timer with c ticks left runs out at the c-th tick: c ticks, or one HOLD_TIMER_EXPIRY, which carries them
(the model's reading, log 7), take the portal from HOLD to DEFAULT with the timer stopped. -/
def Obligations.HoldTimerRunsOutIntoDefault : Prop :=
  ∀ (p : Portal) (s : State) (c : Nat), s.started = true → UnitSound (s.portals.get p) →
    (s.portals.get p).holdTimer = some c → 1 ≤ c →
    ∃ u, exec (.holdTimerExpiry p) s = .next (s.setPortal p u)
      ∧ u = (s.portals.get p).ticks (s.plans.running.portals.get p) c
      ∧ u.state = .fallback ∧ u.holdTimer = none ∧ u.window = []
      ∧ u.timeBase = (s.portals.get p).timeBase + BitVec.ofNat 24 c
      ∧ u.effLum = (s.plans.running.portals.get p).defaultLum
      ∧ ∀ k, k < c →
        ((s.portals.get p).ticks (s.plans.running.portals.get p) k).state = .hold
          ∧ ((s.portals.get p).ticks (s.plans.running.portals.get p) k).holdTimer = some (c - k)

/-- A GOOD or DEGRADED report to a portal that is not in LOCAL mode: the mark is set, the clamped figure is entered at the
newest end (the oldest record leaving a full window), the portal is LIVE, and the reply shows the unit after the report. -/
def Obligations.UsableReportIsEntered : Prop :=
  ∀ (s : State) (l : Line) (p : Portal) (h lo q : Byte) (quality : Quality),
    l.portal = some p → (q = 0 ∧ quality = .good) ∨ (q = 1 ∧ quality = .degraded) →
    (s.plans.running.portals.get p).mode ≠ .localOnly → (s.portals.get p).window.length ≤ 8 → s.Reached l →
    ∃ u : PortalUnit,
      exec (.report l false [h, lo, q]) s =
          .next (((s.addressed l false).setPortal p u).answered l 0x01
            ⟨.done, [1] ++ be16 u.effLum
              ++ be16 (curveLookup (s.plans.running.curves.get p) u.effLum) ++ [u8 u.window.length]⟩)
        ∧ u = { s.portals.get p with
            mark := some (s.portals.get p).timeBase
            window := u.window
            state := .live
            holdTimer := none
            effLum := windowMedian u.window }
        ∧ u.window =
          (if (s.portals.get p).window.length < 8 then (s.portals.get p).window else (s.portals.get p).window.tail)
            ++ [⟨min 9999 (h.toNat * 256 + lo.toNat), .station, quality, (s.portals.get p).timeBase⟩]

/-- A GOOD or DEGRADED report in LOCAL mode sets the mark alone and is answered NOT_USED; a report with an unlisted
quality or of a wrong length is answered BAD_FIELD and leaves the unit unchanged. Both replies show the unit's figures. -/
def Obligations.ReportsThatEnterNothing : Prop :=
  ∀ (s : State) (l : Line) (p : Portal), l.portal = some p → s.Reached l →
    (∀ (h lo q : Byte), q.toNat ≤ 1 → (s.plans.running.portals.get p).mode = .localOnly →
      exec (.report l false [h, lo, q]) s =
        .next (((s.addressed l false).setPortal p
            { s.portals.get p with mark := some (s.portals.get p).timeBase }).answered l 0x01
          ⟨.notUsed, s.portalFigures p⟩))
    ∧ (∀ (h lo q : Byte), 2 < q.toNat →
      exec (.report l false [h, lo, q]) s =
        .next ((s.addressed l false).answered l 0x01 ⟨.badField, s.portalFigures p⟩))
    ∧ (∀ fields : List Byte, fields.length ≠ 3 → fields.length ≤ 59 →
      exec (.report l false fields) s =
        .next ((s.addressed l false).answered l 0x01 ⟨.badField, s.portalFigures p⟩))

/-- An INVALID report removes every STATION sample, clears the mark and is answered DONE in every source mode; where LOCAL
samples remain the portal stays LIVE on their median; where a non-empty window is emptied it holds; an empty window and
its portal state stay. -/
def Obligations.InvalidReportPurgesStationSamples : Prop :=
  ∀ (s : State) (l : Line) (p : Portal) (h lo : Byte), l.portal = some p → s.Reached l →
    UnitSound (s.portals.get p) →
    ∃ u : PortalUnit,
      exec (.report l false [h, lo, 2]) s =
          .next (((s.addressed l false).setPortal p u).answered l 0x01
            ⟨.done, [u.state.code] ++ be16 u.effLum
              ++ be16 (curveLookup (s.plans.running.curves.get p) u.effLum) ++ [u8 u.window.length]⟩)
        ∧ u.mark = none
        ∧ u.window = (s.portals.get p).window.filter (fun x => x.source != .station)
        ∧ u.timeBase = (s.portals.get p).timeBase ∧ u.lastLocal = (s.portals.get p).lastLocal
        ∧ (u.window ≠ [] → u.state = .live ∧ u.effLum = windowMedian u.window)
        ∧ ((s.portals.get p).window = [] → u = { s.portals.get p with mark := none })
        ∧ (u.window = [] → (s.portals.get p).window ≠ [] → 0 < (s.portals.get p).holdTime →
            u.state = .hold ∧ u.holdTimer = some (10 * (s.portals.get p).holdTime)
              ∧ u.heldLum = (s.portals.get p).effLum ∧ u.effLum = (s.portals.get p).effLum)
        ∧ (u.window = [] → (s.portals.get p).window ≠ [] → (s.portals.get p).holdTime = 0 →
            u.state = .fallback ∧ u.holdTimer = none
              ∧ u.heldLum = (s.portals.get p).effLum ∧ u.effLum = (s.portals.get p).defaultLum)

/-- A broadcast REPORT on a portal's line does to the portal unit what the addressed one does, whatever the station address,
that of a listen-only part included, and builds no reply; on Line S it reaches no unit; the other line ports and everything
else stay. -/
def Obligations.BroadcastReportActsWithoutReply : Prop :=
  ∀ (s : State) (l : Line) (fields : List Byte), s.Hears l → fields.length ≤ 59 →
    ∃ t, exec (.report l true fields) s = .next t
      ∧ (t.lines.get l).state = .listen ∧ (t.lines.get l).frame = []
      ∧ (t.lines.get l).reply = ((s.addressed l true).lines.get l).reply
      ∧ (∀ m, m ≠ l → t.lines.get m = s.lines.get m)
      ∧ t = { (s.addressed l true) with portals := t.portals, lines := t.lines }
      ∧ (l = .s → t.portals = s.portals)
      ∧ (∀ p, l.portal = some p → t.portals =
          s.portals.set p ((s.portals.get p).report (s.plans.running.portals.get p).mode fields).1)
      ∧ (∀ t', s.straps.address ≠ 0 → exec (.report l false fields) s = .next t' → t.portals = t'.portals)
      ∧ (∀ a t', a ≠ 0 → exec (.report l false fields) { s with straps := { s.straps with address := a } } = .next t' →
          t.portals = t'.portals)

/-! ### Photometers -/

/-- The interval timer's expiry loads the interval again; a WAITING photometer arms with the S and n of the running plan;
a measurement in flight goes on. The model's choice: in OFF, where the timer is stopped and has no expiry, a commanded one
changes nothing (log 9). -/
def Obligations.IntervalExpiryArmsAWaitingPhotometer : Prop :=
  ∀ (p : Portal) (s : State), s.started = true →
    ∃ m, exec (.intervalTimerExpiry p) s = .next (s.setPhotometer p m)
      ∧ ((s.photometers.get p).state = .off → m = s.photometers.get p)
      ∧ ((s.photometers.get p).state ≠ .off →
          m.interval = some (1000 * (s.plans.running.portals.get p).interval) ∧ m.msPhase = 0)
      ∧ ((s.photometers.get p).state = .waiting →
          m.state = .armed ∧ m.edgeWindow = 0
            ∧ m.constS = (s.plans.running.portals.get p).constS ∧ m.constN = (s.plans.running.portals.get p).constN)
      ∧ ((s.photometers.get p).state = .armed ∨ (s.photometers.get p).state = .counting →
          m = { s.photometers.get p with interval := m.interval, msPhase := m.msPhase })
      ∧ m.timeouts = (s.photometers.get p).timeouts ∧ m.health = (s.photometers.get p).health

/-- An edge in ARMED by the 65,536th clock after arming starts the count; one in OFF or WAITING leaves the measurement as
it is; one in COUNTING before the n-th, by a count of 65,535, raises the edge count. -/
def Obligations.EdgesStartAndRaiseTheCount : Prop :=
  ∀ (p : Portal) (k : Nat) (s : State), s.started = true → 2 ≤ (s.photometers.get p).sinceEdge + k →
    ((s.photometers.get p).state = .armed → (s.photometers.get p).edgeWindow + k ≤ 65536 →
      exec (.phinRisingEdge p k) s =
        .next (s.setPhotometer p
          { s.photometers.get p with
            sinceEdge := 0, state := .counting, edgeWindow := 0, captureCount := 0, edgeCount := 0 }))
    ∧ ((s.photometers.get p).state = .off ∨ (s.photometers.get p).state = .waiting →
      exec (.phinRisingEdge p k) s = .next (s.setPhotometer p { s.photometers.get p with sinceEdge := 0 }))
    ∧ ((s.photometers.get p).state = .counting → (s.photometers.get p).captureCount + k ≤ 65535 →
      (s.photometers.get p).edgeCount + 1 < (s.photometers.get p).constN →
      exec (.phinRisingEdge p k) s =
        .next (s.setPhotometer p
          { s.photometers.get p with
            sinceEdge := 0, captureCount := (s.photometers.get p).captureCount + k,
            edgeCount := (s.photometers.get p).edgeCount + 1 }))

/-- The n-th edge after the first, at a count C of at most 65,535, completes the measurement: timeout count 0, health OK,
WAITING, and the figure min 9999 (floor (S × n / C)) becomes the last local sample, entered as a GOOD LOCAL sample in LOCAL
mode, and in STATION_FALLBACK mode when the station is not fresh, and otherwise discarded. The mode is that of the running
plan, but for an adoption of the same moment that puts the photometer into OFF, which gives the mode. The model's choice
(log 25): an adoption that waits next in the queue comes at the moment of the completion. -/
def Obligations.NthEdgeHandsOverTheQuotient : Prop :=
  ∀ (p : Portal) (k c : Nat) (mode : SourceMode) (s : State), s.started = true →
    2 ≤ (s.photometers.get p).sinceEdge + k →
    (s.photometers.get p).state = .counting → c = (s.photometers.get p).captureCount + k → 1 ≤ c → c ≤ 65535 →
    (s.photometers.get p).constN = (s.photometers.get p).edgeCount + 1 → (s.portals.get p).window.length ≤ 8 →
    mode = ((s.planAtArrival p).portals.get p).mode →
    ∃ m u, exec (.phinRisingEdge p k) s = .next ((s.setPhotometer p m).setPortal p u)
      ∧ m.timeouts = 0 ∧ m.health = .ok ∧ m.state = .waiting ∧ m.interval = (s.photometers.get p).interval
      ∧ m.msPhase = (s.photometers.get p).msPhase
      ∧ u.lastLocal = some (min 9999 ((s.photometers.get p).constS * (s.photometers.get p).constN / c))
      ∧ u.mark = (s.portals.get p).mark ∧ u.timeBase = (s.portals.get p).timeBase
      ∧ ((mode = .localOnly ∨ (mode = .stationFallback ∧ (s.portals.get p).mark = none)) →
          u.window =
            (if (s.portals.get p).window.length < 8 then (s.portals.get p).window else (s.portals.get p).window.tail)
              ++ [⟨min 9999 ((s.photometers.get p).constS * (s.photometers.get p).constN / c), .photometer, .good,
                  (s.portals.get p).timeBase⟩]
            ∧ u.state = .live ∧ u.holdTimer = none ∧ u.effLum = windowMedian u.window)
      ∧ ((mode = .station ∨ (mode = .stationFallback ∧ (s.portals.get p).mark ≠ none)) →
          u = { s.portals.get p with lastLocal := u.lastLocal })
      ∧ (s.pending = [] → mode = (s.plans.running.portals.get p).mode)
      ∧ (∀ next rest, s.pending = next :: rest → (∀ l bc fields, next ≠ .adopt l bc fields) →
          (∀ l v, next ≠ .dataCharacter l v) → (∀ q j, next ≠ .phinRisingEdge q j) →
          mode = (s.plans.running.portals.get p).mode)
      ∧ (∀ rest, s.pending = .adopt .s false [] :: rest → s.Reached .s →
          mode = ((if s.plans.draft.valid = true ∧ (s.plans.draft.portals.get p).photometerOff = true
            then s.plans.draft else s.plans.running).portals.get p).mode)

/-- Both timeouts end the measurement with no figure: the timeout count rises to at most 4, health is LOST from 4 on, and
the photometer is WAITING; the interval timer runs on. An edge past the limit comes after the timeout. The model's choice: a
timeout may be commanded at any moment of its measurement state and carries the capture clocks up to it (log 6), which the
sampling history of PHIN takes with it (log 12), and it has no effect in another state (log 9). -/
def Obligations.TimeoutsCountTowardsLost : Prop :=
  ∀ (p : Portal) (k : Nat) (s : State), s.started = true → (s.photometers.get p).timeouts ≤ 4 →
    ∃ m : Photometer,
      m = { s.photometers.get p with
          state := .waiting, edgeWindow := 0, captureCount := 0, edgeCount := 0
          timeouts := if (s.photometers.get p).timeouts = 4 then 4 else (s.photometers.get p).timeouts + 1
          health := if 3 ≤ (s.photometers.get p).timeouts then .lost else (s.photometers.get p).health }
      ∧ ((s.photometers.get p).state = .armed → exec (.firstEdgeTimeout p) s = .next (s.setPhotometer p
          { m with sinceEdge := min 2 ((s.photometers.get p).sinceEdge + (65536 - (s.photometers.get p).edgeWindow)) }))
      ∧ ((s.photometers.get p).state ≠ .armed → exec (.firstEdgeTimeout p) s = .next s)
      ∧ ((s.photometers.get p).state = .counting → exec (.countOverflowTimeout p) s = .next (s.setPhotometer p
          { m with
            sinceEdge := min 2 ((s.photometers.get p).sinceEdge + (65536 - (s.photometers.get p).captureCount)) }))
      ∧ ((s.photometers.get p).state ≠ .counting → exec (.countOverflowTimeout p) s = .next s)
      ∧ ((s.photometers.get p).state = .armed → 65536 < (s.photometers.get p).edgeWindow + k →
          2 ≤ (s.photometers.get p).sinceEdge + k →
          exec (.phinRisingEdge p k) s = .next (s.setPhotometer p { m with sinceEdge := 0 }))
      ∧ ((s.photometers.get p).state = .counting → 65536 ≤ (s.photometers.get p).captureCount + k →
          2 ≤ (s.photometers.get p).sinceEdge + k →
          exec (.phinRisingEdge p k) s = .next (s.setPhotometer p { m with sinceEdge := 0 }))

/-- R42, R67: a completion, a timeout or an expiry and an adoption at one moment, in both orders. An adoption to OFF before
the completion: no figure. After it: the portal unit takes the figure under the new mode. An adoption that keeps the
photometer on: the completion reads the old plan if it is taken first, else the new. A timeout ends at count 0, health OK
and OFF in both orders. An arming copies the new constants after the adoption and the old before it, and the timer is
loaded likewise; an adoption to OFF leaves no arming. The model's reading of one moment: commands that wait together (log 5,
log 25). -/
def Obligations.AdoptionMeetsThePhotometer : Prop :=
  ∀ (p : Portal) (k c : Nat) (s : State) (rest : List Instr), s.Reached .s → s.plans.draft.valid = true →
    (∃ t, Sys2Proof.core.run 2 { s with pending := .phinRisingEdge p k :: .adopt .s false [] :: rest } = .next t
      ∧ t.plans.running = s.plans.draft
      ∧ ((s.plans.draft.portals.get p).photometerOff = true → 2 ≤ (s.photometers.get p).sinceEdge + k →
          (s.photometers.get p).state = .counting → c = (s.photometers.get p).captureCount + k → 1 ≤ c → c ≤ 65535 →
          (s.photometers.get p).constN = (s.photometers.get p).edgeCount + 1 →
          (s.portals.get p).window.length ≤ 8 →
        (t.photometers.get p).state = .off ∧ (t.photometers.get p).interval = none
          ∧ (t.photometers.get p).timeouts = 0 ∧ (t.photometers.get p).health = .ok
          ∧ (t.portals.get p).lastLocal =
            some (min 9999 ((s.photometers.get p).constS * (s.photometers.get p).constN / c))
          ∧ ((s.plans.draft.portals.get p).mode = .station ∨ (s.portals.get p).mark ≠ none →
            t.portals.get p = { s.portals.get p with lastLocal := (t.portals.get p).lastLocal })
          ∧ ((s.plans.draft.portals.get p).mode = .stationFallback → (s.portals.get p).mark = none →
            (t.portals.get p).window =
              (if (s.portals.get p).window.length < 8 then (s.portals.get p).window else (s.portals.get p).window.tail)
                ++ [⟨min 9999 ((s.photometers.get p).constS * (s.photometers.get p).constN / c), .photometer, .good,
                    (s.portals.get p).timeBase⟩])))
    ∧ (∃ t, Sys2Proof.core.run 2 { s with pending := .adopt .s false [] :: .phinRisingEdge p k :: rest } = .next t
      ∧ ((s.plans.draft.portals.get p).photometerOff = true →
        t.portals.get p = s.portals.get p ∧ (t.photometers.get p).state = .off
          ∧ (t.photometers.get p).timeouts = 0 ∧ (t.photometers.get p).health = .ok))
    ∧ (∀ (both : List Instr) (mode : SourceMode),
        (both = [.phinRisingEdge p k, .adopt .s false []] ∧ mode = (s.plans.running.portals.get p).mode)
          ∨ (both = [.adopt .s false [], .phinRisingEdge p k] ∧ mode = (s.plans.draft.portals.get p).mode) →
        (s.plans.draft.portals.get p).photometerOff = false → 2 ≤ (s.photometers.get p).sinceEdge + k →
        (s.photometers.get p).state = .counting → c = (s.photometers.get p).captureCount + k → 1 ≤ c → c ≤ 65535 →
        (s.photometers.get p).constN = (s.photometers.get p).edgeCount + 1 → (s.portals.get p).window.length ≤ 8 →
        ∃ t, Sys2Proof.core.run 2 { s with pending := both ++ rest } = .next t
          ∧ t.plans.running = s.plans.draft ∧ (t.photometers.get p).state = .waiting
          ∧ (t.photometers.get p).interval = (s.photometers.get p).interval
          ∧ (t.portals.get p).lastLocal =
            some (min 9999 ((s.photometers.get p).constS * (s.photometers.get p).constN / c))
          ∧ ((mode = .localOnly ∨ (mode = .stationFallback ∧ (s.portals.get p).mark = none)) →
              (t.portals.get p).window =
                (if (s.portals.get p).window.length < 8 then (s.portals.get p).window
                  else (s.portals.get p).window.tail)
                  ++ [⟨min 9999 ((s.photometers.get p).constS * (s.photometers.get p).constN / c), .photometer, .good,
                      (s.portals.get p).timeBase⟩])
          ∧ ((mode = .station ∨ (mode = .stationFallback ∧ (s.portals.get p).mark ≠ none)) →
              t.portals.get p = { s.portals.get p with lastLocal := (t.portals.get p).lastLocal }))
    ∧ (∀ timeout, timeout = Instr.firstEdgeTimeout p ∨ timeout = Instr.countOverflowTimeout p →
        ∀ both, both = [timeout, .adopt .s false []] ∨ both = [.adopt .s false [], timeout] →
          (s.plans.draft.portals.get p).photometerOff = true →
          ∃ t, Sys2Proof.core.run 2 { s with pending := both ++ rest } = .next t
            ∧ (t.photometers.get p).state = .off ∧ (t.photometers.get p).timeouts = 0
            ∧ (t.photometers.get p).health = .ok ∧ t.portals.get p = s.portals.get p)
    ∧ (∃ t, Sys2Proof.core.run 2 { s with pending := .adopt .s false [] :: .intervalTimerExpiry p :: rest } = .next t
      ∧ ((s.plans.draft.portals.get p).photometerOff = true →
          (t.photometers.get p).state = .off ∧ (t.photometers.get p).interval = none)
      ∧ ((s.plans.draft.portals.get p).photometerOff = false → (s.photometers.get p).state = .waiting →
          (t.photometers.get p).state = .armed
            ∧ (t.photometers.get p).constS = (s.plans.draft.portals.get p).constS
            ∧ (t.photometers.get p).constN = (s.plans.draft.portals.get p).constN
            ∧ (t.photometers.get p).interval = some (1000 * (s.plans.draft.portals.get p).interval)))
    ∧ (∃ t, Sys2Proof.core.run 2 { s with pending := .intervalTimerExpiry p :: .adopt .s false [] :: rest } = .next t
      ∧ ((s.plans.draft.portals.get p).photometerOff = true →
          (t.photometers.get p).state = .off ∧ (t.photometers.get p).interval = none)
      ∧ ((s.plans.draft.portals.get p).photometerOff = false → (s.photometers.get p).state = .waiting →
          (t.photometers.get p).state = .armed
            ∧ (t.photometers.get p).constS = (s.plans.running.portals.get p).constS
            ∧ (t.photometers.get p).constN = (s.plans.running.portals.get p).constN
            ∧ (t.photometers.get p).interval = some (1000 * (s.plans.running.portals.get p).interval)))

/-! ### Plan memory -/

/-- DRAFT LOAD copies the running plan into the draft. -/
def Obligations.DraftLoadCopiesTheRunningPlan : Prop :=
  ∀ (s : State), s.Reached .s →
    exec (.draftLoad .s false []) s =
      .next (({ s.addressed .s false with plans := { s.plans with draft := s.plans.running } }).answered .s 0x32
        (.plain .done))

/-- A DRAFT PUT whose every check passes replaces the named records of the draft and is answered DONE; any other leaves
the draft as it was and is answered BAD_FIELD. The checks pass exactly for the wire form of records whose every field is
in its range, with a listed selector: one general record; a portal and its record; a portal and its whole curve; a zone
number of 0 to 11 and its record; a first channel and 1 to 8 records that end by channel 31. They never look at the rest
of the draft. -/
def Obligations.DraftPutReplacesWholeRecords : Prop :=
  (∀ (s : State) (fields : List Byte), s.Reached .s → fields.length ≤ 59 →
    (∀ d, putSection s.plans.draft fields = some d →
        exec (.draftPut .s false fields) s =
          .next (({ s.addressed .s false with plans := { s.plans with draft := d } }).answered .s 0x33 (.plain .done)))
      ∧ (putSection s.plans.draft fields = none →
        exec (.draftPut .s false fields) s = .next (s.repliedOnly .s 0x33 .badField)))
  ∧ (∀ (d e : Plan) (body : List Byte), putSection d (0 :: body) = some e ↔
      ∃ g : General, g.inRange = true ∧ body = g.bytes ∧ e = { d with general := g })
  ∧ (∀ (d e : Plan) (body : List Byte), putSection d (1 :: body) = some e ↔
      ∃ (p : Portal) (r : PortalRecord), r.inRange = true ∧ body = (if p = .a then 0 else 1) :: r.bytes
        ∧ e = { d with portals := d.portals.set p r })
  ∧ (∀ (d e : Plan) (body : List Byte), putSection d (2 :: body) = some e ↔
      ∃ (p : Portal) (c : List Breakpoint), curveInRange c = true ∧ body = (if p = .a then 0 else 1) :: curveBytes c
        ∧ e = { d with curves := d.curves.set p c })
  ∧ (∀ (d e : Plan) (body : List Byte), d.zones.length = 12 → (putSection d (3 :: body) = some e ↔
      ∃ (z : Nat) (r : ZoneRecord), z ≤ 11 ∧ r.inRange = true ∧ body = u8 z :: r.bytes
        ∧ e = { d with zones := d.zones.set z r }))
  ∧ (∀ (d e : Plan) (body : List Byte), putSection d (4 :: body) = some e ↔
      ∃ (first : Nat) (rs : List ChannelRecord), 1 ≤ rs.length ∧ rs.length ≤ 8 ∧ first + rs.length ≤ 32
        ∧ (∀ r ∈ rs, r.inRange = true) ∧ body = u8 first :: u8 rs.length :: rs.flatMap ChannelRecord.bytes
        ∧ e = { d with channels := d.channels.take first ++ rs ++ d.channels.drop (first + rs.length) })
  ∧ (∀ (d : Plan) (section_ : Byte) (body : List Byte), 4 < section_.toNat → putSection d (section_ :: body) = none)
  ∧ (∀ d : Plan, putSection d [] = none)
  ∧ (∀ g : General, g.inRange = true ↔
      1 ≤ g.passPeriod ∧ g.passPeriod ≤ 20 ∧ 2000 ≤ g.pwmPeriod ∧ g.pwmPeriod ≤ 40000 ∧ 1 ≤ g.repetition
        ∧ g.repetition ≤ 64 ∧ g.dayLevel ≤ 1000 ∧ g.nightLevel ≤ 1000 ∧ g.nightThreshold ≤ 9999 ∧ g.nightBand ≤ 999
        ∧ g.closedLevel ≤ 1000 ∧ g.fireLevel ≤ 1000 ∧ g.backupCap ≤ 1000 ∧ 1 ≤ g.confirmCount ∧ g.confirmCount ≤ 15)
  ∧ (∀ r : PortalRecord, r.inRange = true ↔
      r.defaultLum ≤ 9999 ∧ 1 ≤ r.sampleLife ∧ r.sampleLife ≤ 600 ∧ r.holdTime ≤ 900 ∧ r.constS ≤ 16777215
        ∧ r.constN ∈ [1, 2, 4, 8] ∧ 1 ≤ r.interval ∧ r.interval ≤ 60)
  ∧ (∀ c : List Breakpoint, curveInRange c = true ↔
      2 ≤ c.length ∧ c.length ≤ 12 ∧ ∀ b ∈ c, b.lum ≤ 9999 ∧ b.demand ≤ 1000)
  ∧ (∀ r : ZoneRecord, r.inRange = true ↔
      r.factor ≤ 1000 ∧ r.floor ≤ 1000 ∧ r.ceiling ≤ 1000 ∧ 1 ≤ r.rise ∧ r.rise ≤ 1000 ∧ 1 ≤ r.fall ∧ r.fall ≤ 1000)
  ∧ (∀ r : ChannelRecord, r.inRange = true ↔
      (∀ z, r.zone = some z → z ≤ 11) ∧ r.cutoff ≤ 500 ∧ r.lo ≤ 500 ∧ 500 ≤ r.hi ∧ r.hi ≤ 1000)

/-- R204, R205: the characters of each plan record, by position and width, several characters most significant first, and
the codes; a record of a plan in range, written so, is read back as itself, and a channel record that is read is written
back as it was. -/
def Obligations.RecordsSurviveTheWire : Prop :=
  (∀ g : General, g.inRange = true → General.parse g.bytes = some g
      ∧ g.bytes.map BitVec.toNat =
        [g.passPeriod, g.pwmPeriod / 256, g.pwmPeriod % 256, g.repetition, g.initialDirection.code,
          g.dayLevel / 256, g.dayLevel % 256, g.nightLevel / 256, g.nightLevel % 256,
          g.nightThreshold / 256, g.nightThreshold % 256, g.nightBand / 256, g.nightBand % 256,
          g.closedLevel / 256, g.closedLevel % 256, g.fireLevel / 256, g.fireLevel % 256,
          g.backupCap / 256, g.backupCap % 256, g.confirmCount, if g.autoResume = true then 1 else 0])
    ∧ (∀ r : PortalRecord, r.inRange = true → PortalRecord.parse r.bytes = some r
      ∧ r.bytes.map BitVec.toNat =
        [r.mode.code, r.defaultLum / 256, r.defaultLum % 256, r.sampleLife / 256, r.sampleLife % 256,
          r.holdTime / 256, r.holdTime % 256, r.constS / 65536, r.constS / 256 % 256, r.constS % 256, r.constN,
          r.interval])
    ∧ (∀ c : List Breakpoint, curveInRange c = true → parseCurve (curveBytes c) = some c
      ∧ (curveBytes c).map BitVec.toNat =
        c.length :: c.flatMap fun b => [b.lum / 256, b.lum % 256, b.demand / 256, b.demand % 256])
    ∧ (∀ r : ZoneRecord, r.inRange = true → ZoneRecord.parse r.bytes = some r
      ∧ r.bytes.map BitVec.toNat =
        [r.kind.code, (match r.portal with | some .a => 0 | some .b => 1 | none => 255),
          r.factor / 256, r.factor % 256, r.floor / 256, r.floor % 256, r.ceiling / 256, r.ceiling % 256,
          r.rise / 256, r.rise % 256, r.fall / 256, r.fall % 256, if r.compensation = true then 1 else 0])
    ∧ (∀ r : ChannelRecord, r.inRange = true → ChannelRecord.parse r.bytes = some r
      ∧ r.bytes.map BitVec.toNat =
        [r.zone.getD 255,
          (if r.polarity = .activeLow then 128 else 0) + (if r.alignment = .trailing then 64 else 0)
            + (if r.trip = .dark then 32 else 0) + (if r.sense = true then 16 else 0) + r.cutoff / 256,
          r.cutoff % 256, r.lo / 256, r.lo % 256, r.hi / 256, r.hi % 256])
    ∧ (∀ (l : List Byte) (r : ChannelRecord), ChannelRecord.parse l = some r → r.bytes = l)
    ∧ [Direction.both, .aIn, .bIn, .closed].map Direction.code = [0, 1, 2, 3]
    ∧ [SourceMode.station, .localOnly, .stationFallback].map SourceMode.code = [0, 1, 2]
    ∧ [ZoneKind.unused, .threshold, .transition, .interior, .exit].map ZoneKind.code = [0, 1, 2, 3, 4]

/-- R62, R63: a plan passes validation exactly when none of its eight conditions fails; the failure reported is the first
of the search, with its section, its record number and its reason code: portal A with its curve pair by pair, portal B with
its curve, the zones, the channels. -/
def Obligations.ValidationFindsEveryFailure : Prop :=
  (∀ p : Plan, p.valid = true ↔
    (∀ x : Portal, (p.portals.get x).mode = .localOnly → (p.portals.get x).constS ≠ 0)
      ∧ (∀ x : Portal, (p.curves.get x).IsChain fun a b => a.lum < b.lum ∧ a.demand ≤ b.demand)
      ∧ (∀ r ∈ p.zones, (r.kind = .threshold ∨ r.kind = .transition ∨ r.kind = .exit → r.portal ≠ none)
          ∧ (r.kind = .interior ∨ r.kind = .unused → r.portal = none) ∧ r.floor ≤ r.ceiling)
      ∧ (∀ r ∈ p.channels, (∀ z, r.zone = some z → (p.zone z).kind ≠ .unused) ∧ r.lo < r.hi))
  ∧ ∀ (p : Plan) (portal : Portal → Nat → List (PlanFailure × Bool)) (zones channels : List (PlanFailure × Bool)),
    (∀ x n, portal x n =
      (⟨1, n, 1⟩, decide ((p.portals.get x).mode = .localOnly ∧ (p.portals.get x).constS = 0))
        :: ((p.curves.get x).zip (p.curves.get x).tail).flatMap fun pair =>
          [(⟨2, n, 2⟩, decide (pair.2.lum ≤ pair.1.lum)), (⟨2, n, 3⟩, decide (pair.2.demand < pair.1.demand))]) →
    zones = (p.zones.zipIdx.flatMap fun x =>
      [(⟨3, x.2, 4⟩,
          decide ((x.1.kind = .threshold ∨ x.1.kind = .transition ∨ x.1.kind = .exit) ∧ x.1.portal = none)),
        (⟨3, x.2, 5⟩, decide ((x.1.kind = .interior ∨ x.1.kind = .unused) ∧ x.1.portal ≠ none)),
        (⟨3, x.2, 6⟩, decide (x.1.ceiling < x.1.floor))]) →
    channels = (p.channels.zipIdx.flatMap fun x =>
      [(⟨4, x.2, 7⟩, decide (x.1.zone.map (fun z => (p.zone z).kind) = some .unused)),
        (⟨4, x.2, 8⟩, decide (x.1.hi ≤ x.1.lo))]) →
    p.firstFailure = ((portal .a 0 ++ portal .b 1 ++ zones ++ channels).find? Prod.snd).map Prod.fst

/-- ADOPT of a valid draft makes it the running plan and each block responds: photometers enter or leave OFF, zones whose
kind or portal changed are marked, channels whose zone changed or whose sense was turned off return to CLEAR; the portal
units, the claims, the safety inputs, the stage and the store are untouched. ADOPT of any other draft changes nothing and
reports the first failure. -/
def Obligations.AdoptInstallsExactlyValidDrafts : Prop :=
  ∀ (s : State), s.Reached .s →
    (s.plans.draft.valid = true →
      ∃ m zs fs,
        exec (.adopt .s false []) s =
            .next (({ s.addressed .s false with
                plans := { s.plans with running := s.plans.draft }
                photometers := m
                engine := { s.engine with zones := zs }
                faults := fs }).answered .s 0x34 (.plain .done))
          ∧ (∀ p : Portal, (s.plans.draft.portals.get p).photometerOff = true →
              (m.get p).state = .off ∧ (m.get p).interval = none ∧ (m.get p).timeouts = 0 ∧ (m.get p).health = .ok)
          ∧ (∀ p : Portal, (s.plans.draft.portals.get p).photometerOff = false → (s.photometers.get p).state = .off →
              (m.get p).state = .waiting
                ∧ (m.get p).interval = some (1000 * (s.plans.draft.portals.get p).interval)
                ∧ (m.get p).timeouts = 0 ∧ (m.get p).health = .ok)
          ∧ (∀ p : Portal, (s.plans.draft.portals.get p).photometerOff = false → (s.photometers.get p).state ≠ .off →
              m.get p = s.photometers.get p)
          ∧ (∀ (z : Nat) (old new : ZoneRecord) (x : ZoneLevel), s.plans.running.zones[z]? = some old →
              s.plans.draft.zones[z]? = some new → s.engine.zones[z]? = some x →
              zs[z]? = some { x with
                seeding := x.seeding || decide (old.kind ≠ new.kind ∨ old.portal ≠ new.portal) })
          ∧ (∀ (c : Nat) (old new : ChannelRecord) (f : FaultRecord), s.plans.running.channels[c]? = some old →
              s.plans.draft.channels[c]? = some new → s.faults[c]? = some f →
              fs[c]? = some
                (if old.zone ≠ new.zone ∨ (old.sense = true ∧ new.sense = false) then ⟨.clear, 0, none⟩ else f)))
    ∧ (s.plans.draft.valid = false →
      ∃ f, s.plans.draft.firstFailure = some f
        ∧ exec (.adopt .s false []) s =
          .next ((s.addressed .s false).answered .s 0x34
            ⟨.planInvalid, [u8 f.sectionCode, u8 f.record, u8 f.reason]⟩))

/-! ### Zone level engine -/

/-- R73: the curve lookup in its three cases, exact at breakpoints, and between the first and last demands. -/
def Obligations.CurveLookupFollowsTheSegments : Prop :=
  ∀ (c : List Breakpoint) (lum : Nat), c.IsChain (fun a b => a.lum < b.lum ∧ a.demand ≤ b.demand) →
    (∀ first rest, c = first :: rest → lum < first.lum → curveLookup c lum = first.demand)
      ∧ (∀ last, c.getLast? = some last → last.lum ≤ lum → curveLookup c lum = last.demand)
      ∧ (∀ before p q after, c = before ++ p :: q :: after → p.lum ≤ lum → lum < q.lum →
          ∃ d, curveLookup c lum = p.demand + d
            ∧ (q.demand - p.demand) * (lum - p.lum) ≤ d * (q.lum - p.lum)
            ∧ ∀ e, (q.demand - p.demand) * (lum - p.lum) ≤ e * (q.lum - p.lum) → d ≤ e)
      ∧ (∀ first last, c.head? = some first → c.getLast? = some last →
          first.demand ≤ curveLookup c lum ∧ curveLookup c lum ≤ last.demand)

/-- R76, R79: the entrance set of each direction, and the day/night state settled from the entrances' luminances. -/
def Obligations.DayAndNightFollowTheEntrances : Prop :=
  (∀ p : Portal, Direction.both.isEntrance p = true ∧ Direction.closed.isEntrance p = false
      ∧ (Direction.aIn.isEntrance p = true ↔ p = .a) ∧ (Direction.bIn.isEntrance p = true ↔ p = .b))
    ∧ ∀ (g : General) (d : Direction) (lum : PerPortal Nat),
      (settleDayNight g d lum .day = .night ↔
          d ≠ .closed ∧ ∀ p, d.isEntrance p = true → lum.get p < g.nightThreshold)
        ∧ (settleDayNight g d lum .night = .day ↔
          d ≠ .closed ∧ ∃ p, d.isEntrance p = true ∧ g.nightThreshold + g.nightBand ≤ lum.get p)

/-- R81, R82: the base target of each kind, direction and place, and the target 0 with no flags of an UNUSED zone. -/
def Obligations.BaseTargetsFollowTheTable : Prop :=
  ∀ (v : PassView) (z : Nat) (r : ZoneRecord) (p : Portal),
    (r.kind = .unused → v.target z r = 0 ∧ v.flags z r = ⟨false, false, false, false, false⟩)
      ∧ (v.direction = .closed → r.kind ≠ .unused → v.baseTarget r = v.plan.general.closedLevel)
      ∧ (v.direction ≠ .closed → r.kind = .interior → v.baseTarget r = v.interior)
      ∧ (v.direction ≠ .closed → r.kind = .threshold ∨ r.kind = .transition → r.portal = some p →
          v.baseTarget r =
            if v.direction.isEntrance p then ceilDiv (v.demand.get p * r.factor) 1000 else v.interior)
      ∧ (v.direction ≠ .closed → r.kind = .exit → r.portal = some p →
          v.baseTarget r =
            if v.direction.isEntrance p then v.interior
            else max v.interior (ceilDiv (v.demand.get p * r.factor) 1000))

/-- R83, R85 to R89, R91: the stages 5 to 9 of a zone in use, in their order, with the flags; n and k are the channels
bound to the zone and those of them that are FAULTED. -/
def Obligations.StagesFollowTheirOrder : Prop :=
  ∀ (v : PassView) (z : Nat) (r : ZoneRecord) (n k t5 t6 t7 t8 : Nat) (m : Summary),
    r.kind ≠ .unused → r.floor ≤ r.ceiling →
    n = v.plan.channelCount z → k = faultCount v.plan v.faults z → m = summaryOf v.plan v.table z →
    t5 = (if r.compensation = true ∧ 0 < k ∧ k < n then min 1000 (ceilDiv (v.baseTarget r * n) (n - k))
      else v.baseTarget r) →
    t6 = max r.floor (min t5 r.ceiling) →
    t7 = (match m.force with | some f => f | none => max m.floor (min (max t6 m.floor) m.cap)) →
    t8 = (if v.backup = true ∧ v.latch = false then min t7 v.plan.general.backupCap else t7) →
    v.target z r = (if v.latch = true then v.plan.general.fireLevel else t8)
      ∧ v.flags z r =
        { claimedFloor := decide (m.force = none ∧ min t6 m.cap < m.floor)
          claimedCap := decide (m.force = none ∧ m.cap < t6)
          forced := m.force.isSome
          compensated := decide (r.compensation = true ∧ 0 < k ∧ k < n)
          capped := decide (v.backup = true ∧ v.latch = false ∧ v.plan.general.backupCap < t7) }
      ∧ n = (v.plan.channels.filter fun c => decide (c.zone = some z)).length
      ∧ k = ((v.plan.channels.zip v.faults).filter fun x =>
          decide (x.1.zone = some z ∧ x.2.state = .faulted)).length

/-- A level pass: the pass timer is loaded with the running plan's period, the day/night state is settled, each zone takes
its target and flags, steps its applied level by the first case of R116 that applies and loses its seeding mark, and the
first levels mark is set; every channel's preload becomes the applied level just set for its zone, 0 if it is unbound; the
direction and every other block are unchanged. What the pass reads is the running plan, the direction, the claims, the
faults, the fire latch and BACKUP as they stand, each portal's demand through its curve, and the interior day or night level
by the state just settled. The pass may be commanded at any moment (log 6). -/
def Obligations.LevelPassStepsEveryZone : Prop :=
  ∀ (s : State), s.started = true →
    ∃ zs cs, exec .levelPass s = .next
        { s with
          engine := { s.engine with
            passTimer := s.plans.running.general.passPeriod, passPhase := 0
            dayNight := settleDayNight s.plans.running.general s.engine.direction
              ⟨s.portals.a.effLum, s.portals.b.effLum⟩ s.engine.dayNight
            zones := zs }
          stage := { s.stage with chans := cs, firstLevels := true } }
      ∧ s.passView =
        { plan := s.plans.running
          direction := s.engine.direction
          interior :=
            if settleDayNight s.plans.running.general s.engine.direction ⟨s.portals.a.effLum, s.portals.b.effLum⟩
                s.engine.dayNight = .day
              then s.plans.running.general.dayLevel else s.plans.running.general.nightLevel
          demand := ⟨curveLookup s.plans.running.curves.a s.portals.a.effLum,
            curveLookup s.plans.running.curves.b s.portals.b.effLum⟩
          table := s.claims.table
          faults := s.faults
          latch := s.safety.latch
          backup := s.safety.backup.asserted }
      ∧ (∀ (z : Nat) (r : ZoneRecord) (x : ZoneLevel), s.plans.running.zones[z]? = some r →
        s.engine.zones[z]? = some x →
        ∃ y, zs[z]? = some y ∧ y.target = s.passView.target z r ∧ y.flags = s.passView.flags z r ∧ y.seeding = false
          ∧ y.applied =
            (if x.seeding = true then y.target
            else if s.safety.latch = true then y.target
            else if s.safety.backup.asserted = true ∧ s.plans.running.general.backupCap < x.applied then y.target
            else if x.applied < y.target then min y.target (x.applied + r.rise)
            else if y.target < x.applied then max y.target (x.applied - r.fall)
            else x.applied))
      ∧ ∀ (c : Nat) (r : ChannelRecord) (o : ChannelOut), s.plans.running.channels[c]? = some r →
        s.stage.chans[c]? = some o →
        (r.zone = none → cs[c]? = some { o with preload := 0 })
          ∧ ∀ z y, r.zone = some z → zs[z]? = some y → cs[c]? = some { o with preload := y.applied }

/-- R117, R122: at a pass a zone's applied level changes by no more than its steps except where it is seeded, the fire
latch is set, or BACKUP is active with the applied level above the cap; with the latch set every zone in use ends at the
fire level. -/
def Obligations.RampsAreBoundedAndFireIsImmediate : Prop :=
  ∀ (s t : State) (z : Nat) (r : ZoneRecord) (x y : ZoneLevel), s.started = true → exec .levelPass s = .next t →
    s.plans.running.zones[z]? = some r → s.engine.zones[z]? = some x → t.engine.zones[z]? = some y →
    (x.seeding = false → s.safety.latch = false →
      ¬(s.safety.backup.asserted = true ∧ s.plans.running.general.backupCap < x.applied) →
      y.applied ≤ x.applied + r.rise ∧ x.applied ≤ y.applied + r.fall
        ∧ (x.applied ≤ y.target → y.applied ≤ y.target) ∧ (y.target ≤ x.applied → y.target ≤ y.applied))
    ∧ (s.safety.latch = true → r.kind ≠ .unused → y.applied = s.plans.running.general.fireLevel)
    ∧ (r.kind = .unused → x.seeding = true → y.applied = 0)

/-- R77, R187, R193: SET DIRECTION, addressed and broadcast, on each line, with a listed and with an unlisted code; with a
body of another length (R196, R204), whose broadcast has no effect on the direction, an inference: R196 names the refusal
alone. The model's choice: the silence timer stops after a broadcast (log 28). -/
def Obligations.SetDirectionActsFromLineS : Prop :=
  ∀ (s : State),
    (s.Reached .s → ∀ d : Direction,
      exec (.setDirection .s false [u8 d.code]) s =
        .next (({ s.addressed .s false with engine := { s.engine with direction := d } }).answered .s 0x21
          (.plain .done)))
    ∧ (s.Reached .s → ∀ b : Byte, 3 < b.toNat →
      exec (.setDirection .s false [b]) s = .next (s.repliedOnly .s 0x21 .badField))
    ∧ (s.Hears .s → ∀ d : Direction,
      exec (.setDirection .s true [u8 d.code]) s =
        .next (({ s.addressed .s true with engine := { s.engine with direction := d } }).listening .s))
    ∧ (s.Hears .s → ∀ b : Byte, 3 < b.toNat →
      exec (.setDirection .s true [b]) s = .next ((s.addressed .s true).listening .s))
    ∧ (∀ fields : List Byte, fields.length ≠ 1 → fields.length ≤ 59 →
      (s.Reached .s → exec (.setDirection .s false fields) s = .next (s.repliedOnly .s 0x21 .badField))
        ∧ (s.Hears .s → exec (.setDirection .s true fields) s = .next ((s.addressed .s true).listening .s)))
    ∧ (∀ l fields, l ≠ .s → fields.length ≤ 59 →
      (s.Reached l → exec (.setDirection l false fields) s = .next (s.repliedOnly l 0x21 .refusedLine))
        ∧ (s.Hears l → exec (.setDirection l true fields) s = .next ((s.addressed l true).listening l)))

/-! ### Claim table -/

/-- R101, R102, R103: a CLAIM that passes every check is a renewal in its place where its key is held, a new claim at the
end where there is room, and TABLE_FULL otherwise; the reply carries the remaining time stored. -/
def Obligations.ClaimIsRenewedOrAppended : Prop :=
  ∀ (s : State) (l : Line) (fields : List Byte) (c : Claim), s.Reached l → fields.length ≤ 59 →
    parseClaim l fields = some c → zonesPermitted s.plans.running c = true → ClaimsSound s →
    (c.key ∈ s.claims.table.map Claim.key →
      exec (.claim l false fields) s =
        .next (((s.addressed l false).setTable
            (s.claims.table.map fun x => if x.key = c.key then c else x)).answered l 0x11 ⟨.done, be16 c.time⟩))
    ∧ (c.key ∉ s.claims.table.map Claim.key → s.claims.table.length < 16 →
      exec (.claim l false fields) s =
        .next (((s.addressed l false).setTable (s.claims.table ++ [c])).answered l 0x11 ⟨.done, be16 c.time⟩))
    ∧ (c.key ∉ s.claims.table.map Claim.key → s.claims.table.length = 16 →
      exec (.claim l false fields) s = .next (s.repliedOnly l 0x11 .tableFull))

/-- R98, R99, R100: which claim the fields stand for, clamped; which fields are refused with BAD_FIELD; which zones a line
may claim, and REFUSED_ZONE for a zone that a portal's line may not claim. -/
def Obligations.ClaimChecksAndClamps : Prop :=
  (∀ (l : Line) (id kind l1 l0 d1 d0 n : Byte) (zones : List Byte),
    (∃ c, parseClaim l (id :: kind :: l1 :: l0 :: d1 :: d0 :: n :: zones) = some c) ↔
      n.toNat = zones.length ∧ 1 ≤ zones.length ∧ zones.length ≤ 12 ∧ id.toNat ≤ 7
        ∧ (kind.toNat = 0 ∨ (l = .s ∧ kind.toNat ≤ 2))
        ∧ (l = .s ∨ d1.toNat * 256 + d0.toNat ≠ 0) ∧ (∀ z ∈ zones, z.toNat ≤ 11) ∧ zones.Nodup)
  ∧ (∀ (l : Line) (fields : List Byte), fields.length < 7 → parseClaim l fields = none)
  ∧ (∀ (l : Line) (id kind l1 l0 d1 d0 n : Byte) (zones : List Byte) (c : Claim),
    parseClaim l (id :: kind :: l1 :: l0 :: d1 :: d0 :: n :: zones) = some c →
      c.owner = l ∧ c.id = id.toNat ∧ c.kind.code = kind ∧ c.level = min 1000 (l1.toNat * 256 + l0.toNat)
        ∧ c.time = 10 * min 3600 (d1.toNat * 256 + d0.toNat)
        ∧ (c.remaining = none ↔ d1.toNat * 256 + d0.toNat = 0)
        ∧ ∀ z, z < 12 → (c.zones.getLsbD z = true ↔ ∃ b ∈ zones, b.toNat = z))
  ∧ (∀ (plan : Plan) (c : Claim), zonesPermitted plan c = true ↔
      c.owner = .s ∨ ∀ z, z < 12 → c.zones.getLsbD z = true →
        (plan.zone z).kind = .interior
          ∨ ((plan.zone z).kind = .threshold ∨ (plan.zone z).kind = .transition ∨ (plan.zone z).kind = .exit)
            ∧ (c.owner = .a ∧ (plan.zone z).portal = some .a ∨ c.owner = .b ∧ (plan.zone z).portal = some .b))
  ∧ (∀ (s : State) (l : Line) (fields : List Byte), s.Reached l → fields.length ≤ 59 →
    (parseClaim l fields = none → exec (.claim l false fields) s = .next (s.repliedOnly l 0x11 .badField))
      ∧ (∀ c p z, parseClaim l fields = some c → l.portal = some p → z < 12 → c.zones.getLsbD z = true →
          ¬((((s.plans.running.zone z).kind = .threshold ∨ (s.plans.running.zone z).kind = .transition
                ∨ (s.plans.running.zone z).kind = .exit) ∧ (s.plans.running.zone z).portal = some p)
              ∨ (s.plans.running.zone z).kind = .interior) →
          exec (.claim l false fields) s = .next (s.repliedOnly l 0x11 .refusedZone)))

/-- R104, R105, R106: RELEASE of one id, of 255 and of an id between; WITHDRAW of a key; both with a body of another length
(R196). -/
def Obligations.ReleaseAndWithdrawRemoveClaims : Prop :=
  ∀ (s : State) (l : Line) (b : Byte),
    (s.Reached l → b.toNat ≤ 7 → (l, b.toNat) ∈ s.claims.table.map Claim.key →
      exec (.release l false [b]) s =
        .next (((s.addressed l false).setTable
          (s.claims.table.filter fun c => decide (c.key ≠ (l, b.toNat)))).answered l 0x12 (.plain .done)))
    ∧ (s.Reached l → b.toNat ≤ 7 → (l, b.toNat) ∉ s.claims.table.map Claim.key →
      exec (.release l false [b]) s = .next (s.repliedOnly l 0x12 .notHeld))
    ∧ (s.Reached l → b.toNat = 255 →
      exec (.release l false [b]) s =
        .next (((s.addressed l false).setTable
          (s.claims.table.filter fun c => decide (c.owner ≠ l))).answered l 0x12 (.plain .done)))
    ∧ (s.Reached l → 8 ≤ b.toNat → b.toNat ≤ 254 →
      exec (.release l false [b]) s = .next (s.repliedOnly l 0x12 .badField))
    ∧ (s.Reached .s → b.toNat ≤ 7 → (l, b.toNat) ∈ s.claims.table.map Claim.key →
      exec (.withdraw .s false [lineCode l, b]) s =
        .next (((s.addressed .s false).setTable
          (s.claims.table.filter fun c => decide (c.key ≠ (l, b.toNat)))).answered .s 0x13 (.plain .done)))
    ∧ (s.Reached .s → b.toNat ≤ 7 → (l, b.toNat) ∉ s.claims.table.map Claim.key →
      exec (.withdraw .s false [lineCode l, b]) s = .next (s.repliedOnly .s 0x13 .notHeld))
    ∧ (s.Reached .s → 8 ≤ b.toNat →
      exec (.withdraw .s false [lineCode l, b]) s = .next (s.repliedOnly .s 0x13 .badField))
    ∧ (s.Reached .s → ∀ owner : Byte, 3 ≤ owner.toNat →
      exec (.withdraw .s false [owner, b]) s = .next (s.repliedOnly .s 0x13 .badField))
    ∧ (∀ fields : List Byte, s.Reached l → fields.length ≠ 1 → fields.length ≤ 59 →
      exec (.release l false fields) s = .next (s.repliedOnly l 0x12 .badField))
    ∧ (∀ fields : List Byte, s.Reached .s → fields.length ≠ 2 → fields.length ≤ 59 →
      exec (.withdraw .s false fields) s = .next (s.repliedOnly .s 0x13 .badField))

/-- R107: a claim check reduces every timed claim by one and removes those that reach 0, the others keeping their order;
CLAIM_EXPIRY is the checks up to the one at which the first timed claim expires (the model's reading, log 7). -/
def Obligations.ClaimChecksCountDownAndExpire : Prop :=
  ∀ (s : State), s.started = true →
    (exec .claimCheck s = .next
      { s with claims :=
        { table := (s.claims.table.filter fun c => decide (c.remaining ≠ some 1 ∧ c.remaining ≠ some 0)).map
            fun c => { c with remaining := c.remaining.map fun t => t - 1 }
          phase := 0 } })
    ∧ (∀ n, 1 ≤ n → (∃ c ∈ s.claims.table, c.remaining = some n) →
        (∀ c ∈ s.claims.table, ∀ t, c.remaining = some t → n ≤ t) →
        exec .claimExpiry s = .next
          { s with claims :=
            { table := (s.claims.table.filter fun c => decide (c.remaining ≠ some n)).map
                fun c => { c with remaining := c.remaining.map fun t => t - n }
              phase := 0 } })
    ∧ ((∀ c ∈ s.claims.table, c.remaining = none) → exec .claimExpiry s = .next s)

/-- R110, R111: which claims are eligible for a zone, and the claim summary of a zone: the highest eligible FORCE level or
none, the highest eligible FLOOR or 0, the lowest eligible CAP or 1000. -/
def Obligations.SummaryTakesHighestAndLowest : Prop :=
  ∀ (plan : Plan) (table : List Claim) (z : Nat),
    (∀ c : Claim, c.eligible plan z = true ↔
      c.zones.getLsbD z = true ∧ (plan.zone z).kind ≠ .unused
        ∧ (c.owner = .s ∨ (plan.zone z).kind = .interior
          ∨ ((plan.zone z).kind = .threshold ∨ (plan.zone z).kind = .transition ∨ (plan.zone z).kind = .exit)
            ∧ (c.owner = .a ∧ (plan.zone z).portal = some .a ∨ c.owner = .b ∧ (plan.zone z).portal = some .b)))
    ∧ (∀ f, (summaryOf plan table z).force = some f ↔
      (∃ c ∈ table, c.eligible plan z = true ∧ c.kind = .force ∧ c.level = f)
        ∧ ∀ c ∈ table, c.eligible plan z = true → c.kind = .force → c.level ≤ f)
    ∧ ((summaryOf plan table z).force = none ↔ ¬∃ c ∈ table, c.eligible plan z = true ∧ c.kind = .force)
    ∧ (∀ c ∈ table, c.eligible plan z = true → c.kind = .floor → c.level ≤ (summaryOf plan table z).floor)
    ∧ ((summaryOf plan table z).floor = 0
        ∨ ∃ c ∈ table, c.eligible plan z = true ∧ c.kind = .floor ∧ c.level = (summaryOf plan table z).floor)
    ∧ (∀ c ∈ table, c.eligible plan z = true → c.kind = .cap → (summaryOf plan table z).cap ≤ c.level)
    ∧ ((∃ c ∈ table, c.eligible plan z = true ∧ c.kind = .cap ∧ c.level = (summaryOf plan table z).cap)
        ∨ ((summaryOf plan table z).cap = 1000 ∧ ¬∃ c ∈ table, c.eligible plan z = true ∧ c.kind = .cap))

/-! ### Safety inputs -/

/-- R134, R136, R140, R143: a sample event at the two filters, a change taken at the eighth differing sample in a row and
not before, and what a change to ASSERTED sets. The model's choices: the event may be commanded at any moment from the
release of reset on (log 6), and before that it has no effect (log 9). -/
def Obligations.EighthDifferingSampleTakesTheChange : Prop :=
  (∀ (f : Filter) (x : Bool),
    (x = f.asserted → f.sample x = ⟨f.asserted, 0⟩)
      ∧ (x ≠ f.asserted → f.run ≤ 6 → f.sample x = ⟨f.asserted, f.run + 1⟩)
      ∧ (x ≠ f.asserted → f.run = 7 → f.sample x = ⟨x, 0⟩)
      ∧ (f.run ≤ 7 → (f.sample x).run ≤ 7))
  ∧ (∀ (f : Filter) (x : Bool), x ≠ f.asserted → f.run = 0 →
    (∀ j, j ≤ 7 → (fun g : Filter => g.sample x)^[j] f = ⟨f.asserted, j⟩)
      ∧ (fun g : Filter => g.sample x)^[8] f = ⟨x, 0⟩)
  ∧ (∀ (s : State) (fireN backupN : Bool), s.watching = true →
    exec (.sampleEvent fireN backupN) s = .next
      { s with
        pins := { s.pins with fireN := fireN, backupN := backupN }
        safety := { s.safety with
          samplePhase := 0
          fire := s.safety.fire.sample !fireN
          backup := s.safety.backup.sample !backupN
          latch := s.safety.latch
            || (!s.safety.fire.asserted && (s.safety.fire.sample !fireN).asserted)
          seenFire := s.safety.seenFire
            || (!s.safety.fire.asserted && (s.safety.fire.sample !fireN).asserted)
          seenBackup := s.safety.seenBackup
            || (!s.safety.backup.asserted && (s.safety.backup.sample !backupN).asserted) } })
  ∧ (∀ (s : State) (fireN backupN : Bool), s.watching = false → exec (.sampleEvent fireN backupN) s = .next s)

/-- R141, R158, R161: a departure of TRIP_N starts a qualification and a return abandons it; an accepted assertion trips a
stage whose plan is loaded and cancels a pending resume; an accepted release sets the resume mark of a TRIPPED stage under
auto-resume YES. The model's choice: an acceptance carries the 1 µs of its qualification (log 6) and has no effect where the
TRIP state is already the accepted one (log 9). -/
def Obligations.TripChangesReachTheStage : Prop :=
  ∀ (s : State), s.watching = true →
    (∀ high, exec (.tripPinChange high) s = .next
      { s with
        pins := { s.pins with tripN := high }
        safety := { s.safety with
          qualifying := if high = s.safety.trip then some (s.safety.qualifying.getD 0) else none } })
    ∧ (s.safety.trip = false → exec .tripAssertionAccepted s = .next
      { s with
        pins := { s.pins with tripN := false }
        safety := { s.safety with trip := true, seenTrip := true, qualifying := none }
        stage := if s.stage.planLoaded = true then { s.stage with state := .tripped, resume := false } else s.stage })
    ∧ (s.safety.trip = true → exec .tripAssertionAccepted s = .next s)
    ∧ (s.safety.trip = true → exec .tripReleaseAccepted s = .next
      { s with
        pins := { s.pins with tripN := true }
        safety := { s.safety with trip := false, qualifying := none }
        stage := { s.stage with
          resume := s.stage.resume
            || decide (s.stage.state = .tripped ∧ s.plans.running.general.autoResume = true) } })
    ∧ (s.safety.trip = false → exec .tripReleaseAccepted s = .next s)

/-- R137, R144, R163, R191: the supervisor's clears, in each state they depend on. -/
def Obligations.SupervisorClears : Prop :=
  ∀ (s : State), s.Reached .s →
    (s.safety.fire.asserted = false → exec (.clearFire .s false []) s =
      .next (({ s.addressed .s false with safety := { s.safety with latch := false } }).answered .s 0x22 (.plain .done)))
    ∧ (s.safety.fire.asserted = true →
      exec (.clearFire .s false []) s = .next (s.repliedOnly .s 0x22 .inputActive))
    ∧ (s.safety.trip = true →
      exec (.clearTrip .s false []) s = .next (s.repliedOnly .s 0x23 .inputActive))
    ∧ (s.safety.trip = false → s.stage.state = .tripped → exec (.clearTrip .s false []) s =
      .next (({ s.addressed .s false with stage := { s.stage with resume := true } }).answered .s 0x23 (.plain .done)))
    ∧ (s.safety.trip = false → s.stage.state ≠ .tripped →
      exec (.clearTrip .s false []) s = .next (s.repliedOnly .s 0x23 .done))
    ∧ (∀ codes : List Byte, codes ≠ [] → codes.length ≤ 3 → (∀ c ∈ codes, c.toNat ≤ 2) → codes.Nodup →
      exec (.ackEvents .s false codes) s =
        .next (({ s.addressed .s false with safety := { s.safety with
            seenFire := s.safety.seenFire && decide (0 ∉ codes)
            seenBackup := s.safety.seenBackup && decide (1 ∉ codes)
            seenTrip := s.safety.seenTrip && decide (2 ∉ codes) } }).answered .s 0x24 (.plain .done)))
    ∧ (∀ codes : List Byte, codes.length ≤ 59 →
      (codes = [] ∨ 3 < codes.length ∨ (∃ c ∈ codes, 2 < c.toNat) ∨ ¬codes.Nodup) →
      exec (.ackEvents .s false codes) s = .next (s.repliedOnly .s 0x24 .badField))
    ∧ (∃ t, exec (.clearCounts .s false []) s = .next t
      ∧ t = { s.addressed .s false with lines := t.lines }
      ∧ (∀ l, (t.lines.get l).rejected = 0 ∧ (t.lines.get l).dropped = 0)
      ∧ (∀ l, l ≠ .s → t.lines.get l = { s.lines.get l with rejected := 0, dropped := 0 })
      ∧ (t.lines.get .s).state = .turnaround
      ∧ (t.lines.get .s).reply = s.replyFrame 0x26 (.plain .done))

/-! ### Output stage and fault sensing -/

/-- R150, R151: a period end counts, and the R-th one is a refresh: period, repetition, settings and duties from the
running plan, the counter at 0; what a refresh does not name is unchanged. The model's choice: a commanded REFRESH carries
the period ends before it (log 8). -/
def Obligations.RefreshTakesThePlan : Prop :=
  ∀ (s : State) (flt : BitVec 32), s.started = true →
    (∃ cs st rs fs, exec (.refresh flt) s = .next
        { s with
          pins := { s.pins with flt := flt }
          stage := { s.stage with
            counter := 0, refreshCount := 0, period := s.plans.running.general.pwmPeriod
            repetition := s.plans.running.general.repetition, chans := cs, state := st, resume := rs }
          faults := fs }
      ∧ (∀ (c : Nat) (r : ChannelRecord) (o : ChannelOut), s.plans.running.channels[c]? = some r →
          s.stage.chans[c]? = some o →
          cs[c]? = some
            { preload := o.preload, duty := dutyOf s.plans.running.general.pwmPeriod r o.preload
              polarity := r.polarity, alignment := r.alignment, trip := r.trip }
          ∧ ∀ f, s.faults[c]? = some f →
              fs[c]? = some
                (if st = .running ∧ r.zone ≠ none ∧ r.sense = true
                    ∧ 0 < dutyOf s.plans.running.general.pwmPeriod r o.preload
                  then f.sample s.plans.running.general.confirmCount (!flt.getLsbD c) else f))
      ∧ (s.stage.state = .running → st = .running ∧ rs = s.stage.resume)
      ∧ (s.stage.state = .released →
          st = (if s.stage.firstLevels = true then .running else .released) ∧ rs = s.stage.resume)
      ∧ (s.stage.state = .tripped → s.stage.resume = false → st = .tripped ∧ rs = false)
      ∧ (s.stage.state = .tripped → s.stage.resume = true →
          st = (if s.stage.firstLevels = true then .running else .released) ∧ rs = false))
    ∧ (s.stage.refreshCount + 1 < s.stage.repetition →
        exec .periodEnd s = .next
          { s with stage := { s.stage with counter := 0, refreshCount := s.stage.refreshCount + 1 } })
    ∧ (s.stage.refreshCount + 1 = s.stage.repetition → exec .periodEnd s = exec (.refresh s.pins.flt) s)

/-- R153, R154: the duty count: 0 at level 0 and below the cutoff; otherwise the least count not below the quotient; never
above the period for a record in range and a level in per-mille. -/
def Obligations.DutyFollowsTheFormula : Prop :=
  ∀ (period level : Nat) (r : ChannelRecord), r.lo ≤ r.hi → r.hi ≤ 1000 → level ≤ 1000 →
    (level = 0 ∨ level < r.cutoff → dutyOf period r level = 0)
      ∧ (level ≠ 0 → r.cutoff ≤ level →
          period * (r.lo * 1000 + (r.hi - r.lo) * level) ≤ dutyOf period r level * 1000000
            ∧ ∀ d, period * (r.lo * 1000 + (r.hi - r.lo) * level) ≤ d * 1000000 → dutyOf period r level ≤ d)
      ∧ dutyOf period r level ≤ period
      ∧ (level = 1000 → r.cutoff ≤ 500 → r.hi = 1000 → dutyOf period r level = period)

/-- R155, R156, R158: what a DIM pin shows: high impedance in RELEASED; in TRIPPED its trip level, whatever the counter;
in RUNNING its active level for exactly the counts its alignment and duty give. -/
def Obligations.DimPinsFollowTheStage : Prop :=
  ∀ (s : State) (n : Nat) (o : ChannelOut), s.stage.chans[n]? = some o →
    (s.stage.state = .released → s.dimPin n = .highImpedance)
      ∧ (s.stage.state = .tripped → (s.dimPin n = .high ↔ (o.trip = .full ↔ o.polarity = .activeHigh)))
      ∧ (s.stage.state = .tripped → (s.dimPin n = .low ↔ ¬(o.trip = .full ↔ o.polarity = .activeHigh)))
      ∧ (s.stage.state = .running → o.duty ≤ s.stage.period →
          (s.dimPin n = .high ∨ s.dimPin n = .low)
          ∧ (o.alignment = .leading →
              (s.dimPin n = .high ↔ (s.stage.counter < o.duty ↔ o.polarity = .activeHigh)))
          ∧ (o.alignment = .trailing →
              (s.dimPin n = .high ↔ (s.stage.period ≤ s.stage.counter + o.duty ↔ o.polarity = .activeHigh))))

/-- R171: what a sample does to a fault record in each state, K being at least 1; so a CLEAR record is SUSPECT through
K - 1 asserted samples in a row and FAULTED at the K-th; a refresh gives each channel it samples the level of its pin with
the K of the running plan. -/
def Obligations.SamplesConfirmFaults : Prop :=
  ∀ (k : Nat) (f : FaultRecord), 1 ≤ k →
    (f.state = .clear → f.sample k false = { f with last := some false })
      ∧ (f.state = .clear → k = 1 → f.sample k true = ⟨.faulted, 0, some true⟩)
      ∧ (f.state = .clear → 1 < k → f.sample k true = ⟨.suspect, 1, some true⟩)
      ∧ (f.state = .suspect → f.sample k false = ⟨.clear, 0, some false⟩)
      ∧ (f.state = .suspect → k ≤ f.count + 1 → f.sample k true = ⟨.faulted, 0, some true⟩)
      ∧ (f.state = .suspect → f.count + 1 < k → f.sample k true = ⟨.suspect, f.count + 1, some true⟩)
      ∧ (∀ x, f.state = .faulted → f.sample k x = { f with last := some x })
      ∧ (∀ j, f.state = .clear → 1 ≤ j → j < k → (FaultRecord.sample k true)^[j] f = ⟨.suspect, j, some true⟩)
      ∧ (f.state = .clear → (FaultRecord.sample k true)^[k] f = ⟨.faulted, 0, some true⟩)
      ∧ ∀ (s t : State) (flt : BitVec 32) (c : Nat) (r : ChannelRecord) (o : ChannelOut), s.started = true →
        exec (.refresh flt) s = .next t → s.plans.running.channels[c]? = some r → t.stage.chans[c]? = some o →
        s.faults[c]? = some f → t.stage.state = .running → r.zone ≠ none → r.sense = true → 0 < o.duty →
        t.faults[c]? = some (f.sample s.plans.running.general.confirmCount (!flt.getLsbD c))

/-- R174: CLEAR FAULTS with a proper list returns each named FAULTED channel to CLEAR or SUSPECT 1 by its last sample,
leaves every other record and answers the count cleared; with any other list it changes no record. The model's choice: the
count is one character (log 27). -/
def Obligations.ClearFaultsJudgesByTheLastSample : Prop :=
  ∀ (s : State) (named : List Byte), s.Reached .s → named.length ≤ 59 →
    (named ≠ [] → named.length ≤ 32 → (∀ c ∈ named, c.toNat ≤ 31) → named.Nodup → s.faults.length = 32 →
      ∃ fs n, exec (.clearFaults .s false named) s =
          .next (({ s.addressed .s false with faults := fs }).answered .s 0x25 ⟨.done, [u8 n]⟩)
        ∧ n = (named.filter fun c =>
            decide ((s.faults[c.toNat]?).map FaultRecord.state = some .faulted)).length
        ∧ ∀ (c : Nat) (f : FaultRecord), s.faults[c]? = some f →
          ((∀ b ∈ named, b.toNat ≠ c) → fs[c]? = some f)
            ∧ (f.state ≠ .faulted → fs[c]? = some f)
            ∧ ((∃ b ∈ named, b.toNat = c) → f.state = .faulted → f.last = some false →
                fs[c]? = some ⟨.clear, 0, some false⟩)
            ∧ ((∃ b ∈ named, b.toNat = c) → f.state = .faulted → f.last = some true →
                fs[c]? = some ⟨.suspect, 1, some true⟩))
    ∧ (named = [] ∨ 32 < named.length ∨ (∃ c ∈ named, 31 < c.toNat) ∨ ¬named.Nodup →
      exec (.clearFaults .s false named) s = .next (s.repliedOnly .s 0x25 .badField))

/-! ### Line ports and requests -/

/-- A request command is its frame: the characters of the frame, given one at a time as ADDRESS_CHARACTER and
DATA_CHARACTER, leave exactly the state the request command leaves, for every kind, line and body. -/
def Obligations.CharactersMakeTheRequest : Prop :=
  (∀ (k : Kind) (l : Line) (bc : Bool) (fields : List Byte) (s : State), fields.length ≤ 59 → s.started = true →
    exec (k.command l bc fields) s = s.feedFrame l (frameOf (s.frameAddress bc) (k.code :: fields)))
  ∧ ∀ (k : Byte) (l : Line) (bc : Bool) (fields : List Byte) (s : State), fields.length ≤ 59 → s.started = true →
    exec (.unknownKind l bc k fields) s = s.feedFrame l (frameOf (s.frameAddress bc) (k :: fields))

/-- R183, R184, R188: an address character at a port in each line state. The model's choice: the silence timer stops where
the character leaves the port in LISTEN (log 28). -/
def Obligations.AddressCharactersStartFrames : Prop :=
  ∀ (s : State) (l : Line) (v : Byte), s.started = true →
    ∃ x : LinePort, exec (.addressCharacter l v) s = .next (s.setLine l x)
      ∧ ((s.lines.get l).state = .reply → x = s.lines.get l)
      ∧ ((s.lines.get l).state ≠ .reply → (v = 0 ∨ (s.straps.address ≠ 0 ∧ v.toNat = s.straps.address.toNat)) →
          x.state = .collect ∧ x.frame = [v] ∧ x.silence = some 0)
      ∧ ((s.lines.get l).state ≠ .reply → ¬(v = 0 ∨ (s.straps.address ≠ 0 ∧ v.toNat = s.straps.address.toNat)) →
          x.state = .listen ∧ x.frame = [] ∧ x.silence = none)
      ∧ x.rejected =
          (if (s.lines.get l).state = .collect then min 65535 ((s.lines.get l).rejected + 1)
            else (s.lines.get l).rejected)
      ∧ x.dropped =
          (if (s.lines.get l).state = .turnaround then min 65535 ((s.lines.get l).dropped + 1)
            else (s.lines.get l).dropped)
      ∧ x.reply = (if (s.lines.get l).state = .turnaround then [] else (s.lines.get l).reply)

/-- R184, R185, R186, R187, R188: a data character in each line state: passed over in LISTEN and REPLY, restarting the
silence in TURNAROUND; in COLLECT appended, a LEN outside 1 to 60 rejecting the frame, a bad CHECK rejecting it, a good CHECK
of an addressed frame handing the request over and holding the reply in TURNAROUND, and a good CHECK of a broadcast frame
handing it over and leaving LISTEN. R189, R194, R195: the reply frame held is 0x40 + the station address, LEN, the request
kind + 0x80, the number of the result code, the payload, and the CHECK that makes the sum 0. The model's choice: the silence
timer stops at a rejection and after a broadcast (log 28). -/
def Obligations.DataCharactersBuildFrames : Prop :=
  (∀ (s : State) (l : Line) (v : Byte), s.started = true →
    ((s.lines.get l).state = .listen ∨ (s.lines.get l).state = .reply → exec (.dataCharacter l v) s = .next s)
    ∧ ((s.lines.get l).state = .turnaround →
        exec (.dataCharacter l v) s = .next (s.setLine l { s.lines.get l with silence := some 0 }))
    ∧ (∀ a, (s.lines.get l).state = .collect → (s.lines.get l).frame = [a] → v = 0 ∨ 60 < v.toNat →
        exec (.dataCharacter l v) s = .next (s.setLine l (s.lines.get l).reject))
    ∧ (∀ a, (s.lines.get l).state = .collect → (s.lines.get l).frame = [a] → 1 ≤ v.toNat → v.toNat ≤ 60 →
        exec (.dataCharacter l v) s =
          .next (s.setLine l { s.lines.get l with frame := [a, v], silence := some 0 }))
    ∧ (∀ a len body, (s.lines.get l).state = .collect → (s.lines.get l).frame = a :: len :: body →
        body.length < len.toNat →
        exec (.dataCharacter l v) s =
          .next (s.setLine l { s.lines.get l with frame := a :: len :: (body ++ [v]), silence := some 0 }))
    ∧ (∀ a len body, (s.lines.get l).state = .collect → (s.lines.get l).frame = a :: len :: body →
        body.length = len.toNat →
        (((a :: len :: body) ++ [v]).map BitVec.toNat).sum % 256 ≠ 0 →
        exec (.dataCharacter l v) s = .next (s.setLine l (s.lines.get l).reject))
    ∧ (∀ a len kind fields, (s.lines.get l).state = .collect → (s.lines.get l).frame = a :: len :: kind :: fields →
        fields.length + 1 = len.toNat →
        (((a :: len :: kind :: fields) ++ [v]).map BitVec.toNat).sum % 256 = 0 →
        (a ≠ 0 → ∃ t, t = (dispatch l kind fields s).1.answered l kind (dispatch l kind fields s).2
          ∧ exec (.dataCharacter l v) s = .next t
          ∧ (t.lines.get l).state = .turnaround ∧ (t.lines.get l).frame = [] ∧ (t.lines.get l).silence = some 0
          ∧ (t.lines.get l).reply = t.replyFrame kind (dispatch l kind fields s).2)
        ∧ (a = 0 → ∃ t, t = (dispatchBroadcast l kind fields s).listening l
          ∧ exec (.dataCharacter l v) s = .next t
          ∧ (t.lines.get l).state = .listen ∧ (t.lines.get l).frame = []
          ∧ (t.lines.get l).reply = (s.lines.get l).reply
          ∧ (t.lines.get l).rejected = (s.lines.get l).rejected ∧ (t.lines.get l).dropped = (s.lines.get l).dropped)))
  ∧ (∀ (s : State) (kind : Byte) (a : Answer), a.payload.length ≤ 58 → ∃ check : Byte,
    (s.replyFrame kind a).map BitVec.toNat =
        [64 + s.straps.address.toNat, 2 + a.payload.length, (kind.toNat + 128) % 256, a.result.code.toNat]
          ++ a.payload.map BitVec.toNat ++ [check.toNat]
      ∧ ((s.replyFrame kind a).map BitVec.toNat).sum % 256 = 0)
  ∧ ([Result.done, .accepted, .notUsed, .refusedLine, .refusedZone, .badKind, .badField, .tableFull, .notHeld,
      .planInvalid, .storeBusy, .inputActive].map fun r => r.code.toNat) = [0, 1, 2, 3, 4, 5, 6, 7, 8, 9, 10, 11]

/-- R182, R185, R188, R189, R192: a framing error, the gap, the end of the silence wait and the end of the reply, in the line
state each acts in and in the others; the pins: transmit data high at rest, and in REPLY the bits of the reply frame, each
character a start bit low, its data bits least significant first, a mark bit that is 1 for the first character alone, and a
stop bit high. The model's choices: a timer's event carries its time (log 6) and has no effect in another line state (log
9); the silence timer stops on entry to LISTEN and to REPLY (log 28); a bit stands from the first whole clock by which its
time has come (log 31). -/
def Obligations.LineTimersAndErrors : Prop :=
  (∀ (s : State) (l : Line), s.started = true →
    ((s.lines.get l).state = .collect → ∃ x : LinePort,
        x = { s.lines.get l with
          state := .listen, frame := [], silence := none, rejected := min 65535 ((s.lines.get l).rejected + 1) }
        ∧ exec (.framingError l) s = .next (s.setLine l x) ∧ exec (.gapTimeout l) s = .next (s.setLine l x))
    ∧ ((s.lines.get l).state ≠ .collect → exec (.gapTimeout l) s = .next s)
    ∧ ((s.lines.get l).state = .listen ∨ (s.lines.get l).state = .reply → exec (.framingError l) s = .next s)
    ∧ ((s.lines.get l).state = .turnaround →
        exec (.framingError l) s = .next (s.setLine l { s.lines.get l with silence := some 0 })
        ∧ ∃ t, exec (.turnaroundSilence l) s = .next t
            ∧ t = s.setLine l { s.lines.get l with state := .reply, silence := none, sent := 0 }
            ∧ t.driverEnable l = true)
    ∧ ((s.lines.get l).state ≠ .turnaround → exec (.turnaroundSilence l) s = .next s)
    ∧ ((s.lines.get l).state = .reply → ∃ t, exec (.replyEnd l) s = .next t
        ∧ t = s.setLine l { s.lines.get l with state := .listen, reply := [], sent := 0 }
        ∧ t.driverEnable l = false)
    ∧ ((s.lines.get l).state ≠ .reply → exec (.replyEnd l) s = .next s))
  ∧ (∀ (s : State) (l : Line), (s.lines.get l).state ≠ .reply → s.transmitData l = true ∧ s.driverEnable l = false)
  ∧ (∀ (s : State) (l : Line) (j i : Nat) (v : Byte), (s.lines.get l).state = .reply →
    (s.lines.get l).reply[j]? = some v → i ≤ 10 →
    (11 * j + i) * 16000000 ≤ (s.lines.get l).sent * bitRate s.straps.rate →
    (s.lines.get l).sent * bitRate s.straps.rate < (11 * j + i + 1) * 16000000 →
    s.driverEnable l = true
      ∧ s.transmitData l =
        (if i = 0 then false else if i ≤ 8 then v.getLsbD (i - 1) else if i = 9 then decide (j = 0) else true))

/-- R187, R193, R196: an unlisted kind is answered BAD_KIND, a listed kind on a line that may not send it REFUSED_LINE, a
kind without fields that carries characters BAD_FIELD; a broadcast of any kind, listed or not, but REPORT and SET DIRECTION
is dropped. In each case nothing but the port of the line changes. The model's choice: the silence timer stops after a
broadcast (log 28). -/
def Obligations.RefusedRequestsChangeNothing : Prop :=
  (∀ (s : State) (l : Line) (k : Byte) (fields : List Byte), s.Reached l → fields.length ≤ 59 →
    (∀ x : Kind, x.code ≠ k) →
    exec (.unknownKind l false k fields) s = .next (s.repliedOnly l k .badKind))
  ∧ (∀ (s : State) (l : Line) (k : Kind) (fields : List Byte), s.Reached l → fields.length ≤ 59 →
    (k = .report ∧ l = .s
      ∨ l ≠ .s ∧ k ∈ [Kind.withdraw, .setDirection, .clearFire, .clearTrip, .ackEvents, .clearFaults, .clearCounts,
          .planRead, .draftLoad, .draftPut, .adopt, .save]) →
    exec (k.command l false fields) s = .next (s.repliedOnly l k.code .refusedLine))
  ∧ (∀ (s : State) (l : Line) (k : Kind) (fields : List Byte), s.Reached l → fields.length ≤ 59 → fields ≠ [] →
    (k ∈ [Kind.readZones, .readPortals, .readPart]
      ∨ l = .s ∧ k ∈ [Kind.draftLoad, .adopt, .save, .clearFire, .clearTrip, .clearCounts]) →
    exec (k.command l false fields) s = .next (s.repliedOnly l k.code .badField))
  ∧ (∀ (s : State) (l : Line) (k : Kind) (fields : List Byte), s.Hears l → fields.length ≤ 59 →
    k ≠ .report → k ≠ .setDirection →
    exec (k.command l true fields) s = .next ((s.addressed l true).listening l))
  ∧ (∀ (s : State) (l : Line) (k : Byte) (fields : List Byte), s.Hears l → fields.length ≤ 59 →
    (∀ x : Kind, x.code ≠ k) →
    exec (.unknownKind l true k fields) s = .next ((s.addressed l true).listening l))

/-- The six reads: what each reports, all of it as it stands when the request is taken, and the bodies each refuses with
BAD_FIELD; beside the port of the line nothing changes. -/
def Obligations.ReadsReportAndChangeNothing : Prop :=
  (∀ (s : State) (l : Line), s.Reached l →
    (exec (.readPortals l false []) s = .next ((s.addressed l false).answered l 0x02
      ⟨.done, [Portal.a, Portal.b].flatMap fun p =>
        [(s.portals.get p).state.code] ++ be16 (s.portals.get p).effLum
          ++ be16 (curveLookup (s.plans.running.curves.get p) (s.portals.get p).effLum)
          ++ [u8 (s.portals.get p).window.length, flag (s.portals.get p).mark.isSome, (s.photometers.get p).state.code,
            (s.photometers.get p).health.code]
          ++ be16 ((s.portals.get p).lastLocal.getD 0xFFFF)⟩))
    ∧ exec (.readZones l false []) s = .next ((s.addressed l false).answered l 0x03
      ⟨.done, packCodes (s.plans.running.zones.map ZoneRecord.zoneCode)
        ++ ((s.plans.running.zones.zipIdx.zip s.engine.zones).filter fun x =>
            decide (x.1.1.kind ≠ .unused)).flatMap fun x =>
          [u8 ((if x.2.flags.claimedFloor then 128 else 0) + (if x.2.flags.claimedCap then 64 else 0)
              + (if x.2.flags.forced then 32 else 0) + (if x.2.flags.compensated then 16 else 0)
              + (if x.2.flags.capped then 8 else 0) + x.2.target / 256),
            u8 x.2.target, u8 (4 * faultCount s.plans.running s.faults x.1.2 + x.2.applied / 256), u8 x.2.applied]⟩)
    ∧ (∀ first count : Byte, first.toNat ≤ 31 → 1 ≤ count.toNat → count.toNat ≤ 8 → first.toNat + count.toNat ≤ 32 →
        exec (.readChannels l false [first, count]) s =
          .next ((s.addressed l false).answered l 0x04
            ⟨.done, [first, count] ++ (((s.stage.chans.zip s.faults).drop first.toNat).take count.toNat).flatMap
              fun x => be16 x.1.preload ++ be16 x.1.duty ++ [x.2.state.code]⟩))
    ∧ (∀ first count : Byte, 31 < first.toNat ∨ count.toNat = 0 ∨ 8 < count.toNat ∨ 32 < first.toNat + count.toNat →
        exec (.readChannels l false [first, count]) s = .next (s.repliedOnly l 0x04 .badField))
    ∧ (∀ fields : List Byte, fields.length ≠ 2 → fields.length ≤ 59 →
        exec (.readChannels l false fields) s = .next (s.repliedOnly l 0x04 .badField))
    ∧ (∀ start : Byte, start.toNat ≤ 15 →
        exec (.readClaims l false [start]) s =
          .next ((s.addressed l false).answered l 0x05
            ⟨.done, [u8 s.claims.table.length, u8 (min 6 (s.claims.table.length - start.toNat))]
              ++ ((s.claims.table.drop start.toNat).take 6).flatMap fun c =>
                [lineCode c.owner, u8 c.id, c.kind.code] ++ be16 c.level ++ be16 (c.remaining.getD 0)
                  ++ be16 c.zones.toNat⟩))
    ∧ (∀ start : Byte, 16 ≤ start.toNat →
        exec (.readClaims l false [start]) s = .next (s.repliedOnly l 0x05 .badField))
    ∧ (∀ fields : List Byte, fields.length ≠ 1 → fields.length ≤ 59 →
        exec (.readClaims l false fields) s = .next (s.repliedOnly l 0x05 .badField))
    ∧ (exec (.readPart l false []) s = .next ((s.addressed l false).answered l 0x06
      ⟨.done, [causeCode s.monitor.cause, s.plans.source.code, s.store.state.code, s.store.result.code,
          u8 s.engine.direction.code, s.engine.dayNight.code, flag s.safety.latch, flag s.safety.fire.asserted,
          flag s.safety.backup.asserted, flag s.safety.trip, flag s.safety.seenFire, flag s.safety.seenBackup,
          flag s.safety.seenTrip, s.stage.state.code]
        ++ be16 ((s.addressed l false).lines.get l).rejected ++ be16 ((s.addressed l false).lines.get l).dropped⟩))
    ∧ (l = .s → ∀ (sel sec index : Byte) (p : Plan),
        (sel = 0 ∧ p = s.plans.running) ∨ (sel = 1 ∧ p = s.plans.draft) →
        p.zones.length = 12 → p.channels.length = 32 →
        (sec = 0 → index = 0 → exec (.planRead l false [sel, sec, index]) s =
          .next ((s.addressed l false).answered l 0x31 ⟨.done, p.general.bytes⟩))
        ∧ (∀ x : Portal, sec = 1 → index = (if x = .a then 0 else 1) →
          exec (.planRead l false [sel, sec, index]) s =
            .next ((s.addressed l false).answered l 0x31 ⟨.done, (p.portals.get x).bytes⟩))
        ∧ (∀ x : Portal, sec = 2 → index = (if x = .a then 0 else 1) →
          exec (.planRead l false [sel, sec, index]) s =
            .next ((s.addressed l false).answered l 0x31 ⟨.done, curveBytes (p.curves.get x)⟩))
        ∧ (∀ r, sec = 3 → p.zones[index.toNat]? = some r → exec (.planRead l false [sel, sec, index]) s =
          .next ((s.addressed l false).answered l 0x31 ⟨.done, r.bytes⟩))
        ∧ (∀ r, sec = 4 → p.channels[index.toNat]? = some r → exec (.planRead l false [sel, sec, index]) s =
          .next ((s.addressed l false).answered l 0x31 ⟨.done, r.bytes⟩)))
    ∧ (l = .s → ∀ sel sec index : Byte,
        1 < sel.toNat ∨ 4 < sec.toNat ∨ (sec = 0 ∧ index ≠ 0) ∨ (sec.toNat ∈ [1, 2] ∧ 1 < index.toNat)
          ∨ (sec = 3 ∧ 11 < index.toNat) ∨ (sec = 4 ∧ 31 < index.toNat) →
        exec (.planRead l false [sel, sec, index]) s = .next (s.repliedOnly l 0x31 .badField))
    ∧ (l = .s → ∀ fields : List Byte, fields.length ≠ 3 → fields.length ≤ 59 →
        exec (.planRead l false fields) s = .next (s.repliedOnly l 0x31 .badField)))
  ∧ (∀ r : ZoneRecord,
    (r.kind = .unused → r.zoneCode = 0) ∧ (r.kind = .interior → r.zoneCode = 5)
      ∧ (r.portal = some .a → (r.kind = .threshold → r.zoneCode = 1) ∧ (r.kind = .transition → r.zoneCode = 3)
        ∧ (r.kind = .exit → r.zoneCode = 6))
      ∧ (r.portal = some .b → (r.kind = .threshold → r.zoneCode = 2) ∧ (r.kind = .transition → r.zoneCode = 4)
        ∧ (r.kind = .exit → r.zoneCode = 7)))
  ∧ (∀ codes : List Nat, codes.length = 12 → (packCodes codes).length = 6
      ∧ ∀ k, k < 6 → (packCodes codes)[k]? = some (u8 (16 * codes.getD (2 * k) 0 + codes.getD (2 * k + 1) 0)))
  ∧ [PortalState.noData, .live, .hold, .fallback].map PortalState.code = [0, 1, 2, 3]
  ∧ [MeasureState.off, .waiting, .armed, .counting].map MeasureState.code = [0, 1, 2, 3]
  ∧ [Health.ok, .lost].map Health.code = [0, 1]
  ∧ [FaultState.clear, .suspect, .faulted].map FaultState.code = [0, 1, 2]
  ∧ [Line.a, .b, .s].map lineCode = [0, 1, 2] ∧ [ClaimKind.floor, .cap, .force].map ClaimKind.code = [0, 1, 2]
  ∧ [ResetCause.powerOn, .supplyLow, .external].map causeCode = [0, 1, 2]
  ∧ [PlanSource.saved, .builtIn].map PlanSource.code = [0, 1]
  ∧ [StoreState.idle, .erasing, .programming, .verifying].map StoreState.code = [0, 1, 2, 3]
  ∧ [SaveResult.none, .saved, .failed].map SaveResult.code = [0, 1, 2]
  ∧ [Direction.both, .aIn, .bIn, .closed].map Direction.code = [0, 1, 2, 3]
  ∧ [DayNight.day, .night].map DayNight.code = [0, 1]
  ∧ [StageState.released, .running, .tripped].map StageState.code = [0, 1, 2]

/-! ### Plan store, reset and start-up -/

/-- R208, R209: SAVE in IDLE takes its snapshot and begins erasing, otherwise STORE_BUSY; page 0, page 1, programming and
verification complete in turn; the last save result is SAVED exactly when every byte compares equal and the committed
marker reads 0x3C5A. The model's choices: a completion carries its time (log 6), one in another state has no effect (log 9),
and the image after a failed read-back (log 14). -/
def Obligations.SaveStepsRunInTurn : Prop :=
  (∀ (s : State), s.Reached .s →
    (s.store.state = .idle →
      exec (.save .s false []) s = .next (({ s.addressed .s false with store := { s.store with
          state := .erasing, snapshot := some (imageOf 0x3CFF s.plans.running), index := 0, phase := 0 } }).answered
        .s 0x35 (.plain .accepted)))
    ∧ (s.store.state ≠ .idle → exec (.save .s false []) s = .next (s.repliedOnly .s 0x35 .storeBusy)))
  ∧ ∀ (s : State), s.started = true →
    (s.store.state = .erasing → s.store.index = 0 → exec .pageErased s = .next
      { s with store := { s.store with
        image := List.replicate 256 0xFF ++ s.store.image.drop 256, index := 1, phase := 0 } })
    ∧ (s.store.state = .erasing → s.store.index ≠ 0 → exec .pageErased s = .next
      { s with store := { s.store with
        image := s.store.image.take 256 ++ List.replicate 256 0xFF, index := 0, phase := 0, state := .programming } })
    ∧ (∀ snap, s.store.state = .programming → s.store.snapshot = some snap → exec .programmingComplete s = .next
      { s with store := { s.store with image := snap, index := 0, phase := 0, state := .verifying } })
    ∧ (∀ differs marker, s.store.state = .verifying →
      ∃ image, exec (.verifyComplete differs marker) s = .next
          { s with store := { s.store with
            image := image, state := .idle, snapshot := none, index := 0, phase := 0
            result := if differs = false ∧ marker = 0x3C5A then .saved else .failed } }
        ∧ (differs = true → image = s.store.image)
        ∧ (differs = false → image = be16 marker.toNat ++ s.store.image.drop 2))
    ∧ (s.store.state ≠ .erasing → exec .pageErased s = .next s)
    ∧ (s.store.state ≠ .programming → exec .programmingComplete s = .next s)
    ∧ (∀ differs marker, s.store.state ≠ .verifying → exec (.verifyComplete differs marker) s = .next s)

/-- R207 to R211: a plan that is in range and valid, saved to its commit, is the plan the next start-up loads, with plan
source SAVED, for every state the part may otherwise be in, every reset cause and every strap. It rests on the model's packing of
the plan words (log 15), on the image after the commit (log 14) and on the commanded times of the steps (log 6). -/
def Obligations.SavedPlanReturnsAtStartUp : Prop :=
  ∀ (s : State) (cause : ResetCause) (address : BitVec 5) (rate : BitVec 2) (rest : List Instr),
    s.plans.running.inRange = true → s.plans.running.valid = true → s.Reached .s → s.store.state = .idle →
    s.monitor.anyStands = false →
    ∃ t, Sys2Proof.core.run 8
        { s with pending :=
          [.save .s false [], .pageErased, .pageErased, .programmingComplete, .verifyComplete false 0x3C5A,
            .resetEntry cause, .resetRelease cause, .startUp address rate] ++ rest } = .next t
      ∧ t.plans.running = s.plans.running ∧ t.plans.draft = s.plans.running ∧ t.plans.source = .saved
      ∧ t.straps = ⟨address, rate⟩ ∧ t.started = true ∧ t.pending = rest

/-- R192, R210, R211: a reset cause that begins to stand leaves every block at its reset value and abandons a save; the
release of the last standing cause records it and begins the wait, and the TRIP detector meets its pin; an earlier release
leaves the part held; START_UP starts every block from the plan of a valid image, or from the built-in plan. The model's
choices: the portal units, the engine and plan memory hold the built-in plan's values while the part is held, and the line
ports stand in LISTEN (log 4), the causes are operands (log 17), a release of a cause that does not stand and a START_UP
outside the wait have no effect (log 9), START_UP may be commanded at any moment of the wait (log 6), and a release of
POWER_ON before its 2 ms have begun is taken as the release (log 30). -/
def Obligations.ResetHoldsReleasesAndStarts : Prop :=
  (∀ (s : State) (c : ResetCause), ∃ t, exec (.resetEntry c) s = .next t
    ∧ t =
      { monitor := { s.monitor.setCause c true with
          phase := .held, waitClocks := 0, divider := 0
          powerTimer := if c = .powerOn then none else s.monitor.powerTimer }
        pins := s.pins
        straps := s.straps
        plans := ⟨builtInPlan, builtInPlan, .builtIn⟩
        store := ⟨t.store.image, .idle, none, .none, 0, 0⟩
        portals := State.reset.portals
        photometers := ⟨Photometer.off, Photometer.off⟩
        engine := State.reset.engine
        claims := ⟨[], 0⟩
        safety := ⟨⟨false, 0⟩, ⟨false, 0⟩, false, false, none, false, false, false, 0⟩
        stage := { State.reset.stage with planLoaded := false }
        faults := List.replicate 32 ⟨.clear, 0, none⟩
        lines := ⟨LinePort.initial, LinePort.initial, LinePort.initial⟩
        freeCount := s.freeCount
        pending := s.pending }
    ∧ t.monitor.stands c = true ∧ t.monitor.cause = s.monitor.cause
    ∧ t.stage.state = .released ∧ t.stage.counter = 0 ∧ t.stage.refreshCount = 0 ∧ t.stage.firstLevels = false
    ∧ t.stage.resume = false ∧ (∀ o ∈ t.stage.chans, o.preload = 0 ∧ o.duty = 0)
    ∧ (∀ p, (t.photometers.get p).state = .off ∧ (t.photometers.get p).interval = none
        ∧ (t.photometers.get p).timeouts = 0 ∧ (t.photometers.get p).health = .ok)
    ∧ (∀ x ∈ t.engine.zones, x = ⟨0, 0, true, ⟨false, false, false, false, false⟩⟩)
    ∧ (∀ l, (t.lines.get l).frame = [] ∧ (t.lines.get l).reply = [] ∧ (t.lines.get l).rejected = 0
        ∧ (t.lines.get l).dropped = 0)
    ∧ (SaveUncommitted s → s.store.state ≠ .idle → imageValid t.store.image = false)
    ∧ (s.store.state = .idle → t.store.image = s.store.image))
  ∧ (∀ (s : State) (c : ResetCause), s.monitor.phase = .held → s.monitor.stands c = true →
    ∃ t, exec (.resetRelease c) s = .next t
      ∧ t = { s with monitor := t.monitor, safety := t.safety }
      ∧ (∀ d, t.monitor.stands d = (s.monitor.stands d && decide (d ≠ c)))
      ∧ ((∀ d, d ≠ c → s.monitor.stands d = false) →
          t.monitor.phase = .wait ∧ t.monitor.cause = c ∧ t.monitor.waitClocks = 0 ∧ t.monitor.powerTimer = none
            ∧ t.safety = { s.safety with
                qualifying :=
                  if s.pins.tripN = s.safety.trip then some (s.safety.qualifying.getD 0) else none })
      ∧ ((∃ d, d ≠ c ∧ s.monitor.stands d = true) →
          t.monitor.phase = .held ∧ t.monitor.cause = s.monitor.cause ∧ t.safety = s.safety
            ∧ t.monitor.powerTimer =
              if c = .supplyLow ∧ s.monitor.powerOn = true ∧ s.monitor.powerTimer = none then some 0
              else s.monitor.powerTimer))
  ∧ (∀ (s : State) (c : ResetCause), s.monitor.phase ≠ .held ∨ s.monitor.stands c = false →
    exec (.resetRelease c) s = .next s)
  ∧ (∀ (s : State) (address : BitVec 5) (rate : BitVec 2) (plan : Plan) (source : PlanSource),
    s.monitor.phase = .wait →
    (storedPlan s.store.image = some plan ∧ source = .saved)
      ∨ (storedPlan s.store.image = none ∧ plan = builtInPlan ∧ source = .builtIn) →
    ∃ t, exec (.startUp address rate) s = .next t
      ∧ t = { s with
        monitor := { s.monitor with phase := .run, waitClocks := 0, divider := 0 }
        pins := { s.pins with address := address, rate := rate }
        straps := ⟨address, rate⟩
        plans := ⟨plan, plan, source⟩
        portals := t.portals
        photometers := t.photometers
        engine := ⟨plan.general.passPeriod, 0, plan.general.initialDirection, .day,
          List.replicate 12 ⟨0, 0, true, ⟨false, false, false, false, false⟩⟩⟩
        claims := ⟨[], 0⟩
        stage :=
          { counter := 0, period := plan.general.pwmPeriod, repetition := plan.general.repetition, refreshCount := 0
            chans := plan.channels.map fun r => ⟨0, 0, r.polarity, r.alignment, r.trip⟩
            state := if s.safety.trip = true then .tripped else .released
            firstLevels := false, resume := false, planLoaded := true }
        faults := List.replicate 32 ⟨.clear, 0, none⟩
        lines := ⟨LinePort.initial, LinePort.initial, LinePort.initial⟩ }
      ∧ (∀ p, t.portals.get p =
          { window := [], state := .noData, effLum := (plan.portals.get p).defaultLum, heldLum := 0, mark := none
            holdTimer := none, timeBase := 0, tickPhase := 0, life := (plan.portals.get p).sampleLife
            holdTime := (plan.portals.get p).holdTime, defaultLum := (plan.portals.get p).defaultLum, lastLocal := none })
      ∧ (∀ p, t.photometers.get p =
          if (plan.portals.get p).mode = .station ∨ (plan.portals.get p).constS = 0 then Photometer.off
          else { Photometer.off with state := .waiting, interval := some (1000 * (plan.portals.get p).interval) })
      ∧ (∀ l, (t.lines.get l).state = .listen))
  ∧ (∀ image, imageValid image = false → storedPlan image = none)
  ∧ (∀ (s : State) (address : BitVec 5) (rate : BitVec 2), s.monitor.phase ≠ .wait →
    exec (.startUp address rate) s = .next s)

/-- The state after reset is the one that a power-on reset, its release and a start-up with the straps at address 1 and
9600 bit/s leave, and it meets every invariant. The model's choices: that state as reset state (log 1), the straps (log 2),
the pins (log 3), an erased image (log 1); the sample timer, which in the reset state has run the start-up wait (log 26), is
not moved by the commanded START_UP (log 6). -/
def Obligations.ResetStateMeetsTheInvariants : Prop :=
  (Sys2Proof.core.run 3
      { State.reset with pending := [.resetEntry .powerOn, .resetRelease .powerOn, .startUp 1 0] }
    = .next { State.reset with safety := { State.reset.safety with samplePhase := 0 } })
    ∧ PlansSound State.reset ∧ PortalsSound State.reset ∧ LuminancesBounded State.reset ∧ ClaimsSound State.reset
    ∧ LevelsSound State.reset ∧ DutiesSound State.reset ∧ LatchSound State.reset ∧ TripSound State.reset
    ∧ FaultsSound State.reset ∧ PortsSound State.reset ∧ ListenOnlySilent State.reset ∧ SaveUncommitted State.reset

/-! ### Invariants that every step keeps -/

/-- R44, R52: every step keeps both plans in range and the running plan valid. -/
def Obligations.EveryStepKeepsPlansSound : Prop :=
  ∀ s t : State, PlansSound s → step s = .next t → PlansSound t

/-- R3, R20 to R23: every step keeps windows within 8 samples, LIVE exactly with samples, the hold timer exactly in HOLD. -/
def Obligations.EveryStepKeepsPortalsSound : Prop :=
  ∀ s t : State, PortalsSound s → step s = .next t → PortalsSound t

/-- R19: with sound plans, every step keeps every luminance within 0 to 9999. -/
def Obligations.EveryStepKeepsLuminancesBounded : Prop :=
  ∀ s t : State, PlansSound s → LuminancesBounded s → step s = .next t → LuminancesBounded t

/-- R94, R95, R99: every step keeps the claim table sound. -/
def Obligations.EveryStepKeepsClaimsSound : Prop :=
  ∀ s t : State, ClaimsSound s → step s = .next t → ClaimsSound t

/-- R115: with sound plans and claims, every step keeps every target and applied level within 0 to 1000. -/
def Obligations.EveryStepKeepsLevelsSound : Prop :=
  ∀ s t : State, PlansSound s → ClaimsSound s → LevelsSound s → step s = .next t → LevelsSound t

/-- R136, R154, R158, R176: every step keeps the latch with an asserted fire input, every duty within the period, the
stage TRIPPED under an asserted trip, and FAULTED channels bound and sensed. -/
def Obligations.EveryStepKeepsTheOutputsSafe : Prop :=
  ∀ s t : State, step s = .next t →
    (LatchSound s → LatchSound t) ∧ (DutiesSound s → DutiesSound t) ∧ (TripSound s → TripSound t)
      ∧ (FaultsSound s → FaultsSound t)

/-- R181, R185, R190: every step keeps the frame buffers and counters within their bounds, and a listen-only part
silent. -/
def Obligations.EveryStepKeepsThePortsSound : Prop :=
  ∀ s t : State, step s = .next t →
    (PortsSound s → PortsSound t) ∧ (ListenOnlySilent s → ListenOnlySilent t)

/-- R209: every step keeps a save in flight uncommitted, so that no image left by a save that did not reach its commit is
valid. -/
def Obligations.EveryStepKeepsSavesUncommitted : Prop :=
  ∀ s t : State, SaveUncommitted s → step s = .next t → SaveUncommitted t
end

