-- ==== Sys2Proof/Laws/State.lean ====
section
/-! SUPPORT. What each update of the state leaves of each field, so that no proof unfolds a record update. -/

namespace Sys2Proof

/-! ### Values held once per portal and once per line -/

theorem PerPortal.ext_get {α : Type} {v w : PerPortal α} (h : ∀ p, v.get p = w.get p) : v = w := by
  have ha := h .a
  have hb := h .b
  cases v; cases w
  simp_all [PerPortal.get]

theorem PerLine.ext_get {α : Type} {v w : PerLine α} (h : ∀ l, v.get l = w.get l) : v = w := by
  have ha := h .a
  have hb := h .b
  have hs := h .s
  cases v; cases w
  simp_all [PerLine.get]

@[simp] theorem PerPortal.get_mk_a {α : Type} (x y : α) : (PerPortal.mk x y).get .a = x := rfl
@[simp] theorem PerPortal.get_mk_b {α : Type} (x y : α) : (PerPortal.mk x y).get .b = y := rfl

@[simp] theorem PerPortal.get_set_self {α : Type} (v : PerPortal α) (p : Portal) (x : α) : (v.set p x).get p = x := by
  cases p <;> rfl

theorem PerPortal.get_set {α : Type} (v : PerPortal α) (p q : Portal) (x : α) :
    (v.set p x).get q = if p = q then x else v.get q := by
  cases p <;> cases q <;> rfl

@[simp] theorem PerPortal.get_set_ne {α : Type} (v : PerPortal α) {p q : Portal} (h : p ≠ q) (x : α) :
    (v.set p x).get q = v.get q := by
  simp [PerPortal.get_set, h]

@[simp] theorem PerPortal.set_get {α : Type} (v : PerPortal α) (p : Portal) : v.set p (v.get p) = v := by
  cases p <;> rfl

@[simp] theorem PerPortal.set_set {α : Type} (v : PerPortal α) (p : Portal) (x y : α) :
    (v.set p x).set p y = v.set p y := by
  cases p <;> rfl

@[simp] theorem PerLine.get_set_self {α : Type} (v : PerLine α) (l : Line) (x : α) : (v.set l x).get l = x := by
  cases l <;> rfl

theorem PerLine.get_set {α : Type} (v : PerLine α) (l m : Line) (x : α) :
    (v.set l x).get m = if l = m then x else v.get m := by
  cases l <;> cases m <;> rfl

@[simp] theorem PerLine.get_set_ne {α : Type} (v : PerLine α) {l m : Line} (h : l ≠ m) (x : α) :
    (v.set l x).get m = v.get m := by
  simp [PerLine.get_set, h]

@[simp] theorem PerLine.set_get {α : Type} (v : PerLine α) (l : Line) : v.set l (v.get l) = v := by
  cases l <;> rfl

@[simp] theorem PerLine.set_set {α : Type} (v : PerLine α) (l : Line) (x y : α) :
    (v.set l x).set l y = v.set l y := by
  cases l <;> rfl

namespace Machine

/-! ### setPortal -/

@[simp] theorem State.setPortal_monitor (s : State) (p : Portal) (u : PortalUnit) :
    (s.setPortal p u).monitor = s.monitor := rfl
@[simp] theorem State.setPortal_pins (s : State) (p : Portal) (u : PortalUnit) :
    (s.setPortal p u).pins = s.pins := rfl
@[simp] theorem State.setPortal_straps (s : State) (p : Portal) (u : PortalUnit) :
    (s.setPortal p u).straps = s.straps := rfl
@[simp] theorem State.setPortal_plans (s : State) (p : Portal) (u : PortalUnit) :
    (s.setPortal p u).plans = s.plans := rfl
@[simp] theorem State.setPortal_store (s : State) (p : Portal) (u : PortalUnit) :
    (s.setPortal p u).store = s.store := rfl
@[simp] theorem State.setPortal_portals (s : State) (p : Portal) (u : PortalUnit) :
    (s.setPortal p u).portals = s.portals.set p u := rfl
@[simp] theorem State.setPortal_photometers (s : State) (p : Portal) (u : PortalUnit) :
    (s.setPortal p u).photometers = s.photometers := rfl
@[simp] theorem State.setPortal_engine (s : State) (p : Portal) (u : PortalUnit) :
    (s.setPortal p u).engine = s.engine := rfl
@[simp] theorem State.setPortal_claims (s : State) (p : Portal) (u : PortalUnit) :
    (s.setPortal p u).claims = s.claims := rfl
@[simp] theorem State.setPortal_safety (s : State) (p : Portal) (u : PortalUnit) :
    (s.setPortal p u).safety = s.safety := rfl
@[simp] theorem State.setPortal_stage (s : State) (p : Portal) (u : PortalUnit) :
    (s.setPortal p u).stage = s.stage := rfl
@[simp] theorem State.setPortal_faults (s : State) (p : Portal) (u : PortalUnit) :
    (s.setPortal p u).faults = s.faults := rfl
@[simp] theorem State.setPortal_lines (s : State) (p : Portal) (u : PortalUnit) :
    (s.setPortal p u).lines = s.lines := rfl
@[simp] theorem State.setPortal_freeCount (s : State) (p : Portal) (u : PortalUnit) :
    (s.setPortal p u).freeCount = s.freeCount := rfl
@[simp] theorem State.setPortal_pending (s : State) (p : Portal) (u : PortalUnit) :
    (s.setPortal p u).pending = s.pending := rfl

/-! ### setPhotometer -/

@[simp] theorem State.setPhotometer_monitor (s : State) (p : Portal) (m : Photometer) :
    (s.setPhotometer p m).monitor = s.monitor := rfl
@[simp] theorem State.setPhotometer_pins (s : State) (p : Portal) (m : Photometer) :
    (s.setPhotometer p m).pins = s.pins := rfl
@[simp] theorem State.setPhotometer_straps (s : State) (p : Portal) (m : Photometer) :
    (s.setPhotometer p m).straps = s.straps := rfl
@[simp] theorem State.setPhotometer_plans (s : State) (p : Portal) (m : Photometer) :
    (s.setPhotometer p m).plans = s.plans := rfl
@[simp] theorem State.setPhotometer_store (s : State) (p : Portal) (m : Photometer) :
    (s.setPhotometer p m).store = s.store := rfl
@[simp] theorem State.setPhotometer_portals (s : State) (p : Portal) (m : Photometer) :
    (s.setPhotometer p m).portals = s.portals := rfl
@[simp] theorem State.setPhotometer_photometers (s : State) (p : Portal) (m : Photometer) :
    (s.setPhotometer p m).photometers = s.photometers.set p m := rfl
@[simp] theorem State.setPhotometer_engine (s : State) (p : Portal) (m : Photometer) :
    (s.setPhotometer p m).engine = s.engine := rfl
@[simp] theorem State.setPhotometer_claims (s : State) (p : Portal) (m : Photometer) :
    (s.setPhotometer p m).claims = s.claims := rfl
@[simp] theorem State.setPhotometer_safety (s : State) (p : Portal) (m : Photometer) :
    (s.setPhotometer p m).safety = s.safety := rfl
@[simp] theorem State.setPhotometer_stage (s : State) (p : Portal) (m : Photometer) :
    (s.setPhotometer p m).stage = s.stage := rfl
@[simp] theorem State.setPhotometer_faults (s : State) (p : Portal) (m : Photometer) :
    (s.setPhotometer p m).faults = s.faults := rfl
@[simp] theorem State.setPhotometer_lines (s : State) (p : Portal) (m : Photometer) :
    (s.setPhotometer p m).lines = s.lines := rfl
@[simp] theorem State.setPhotometer_freeCount (s : State) (p : Portal) (m : Photometer) :
    (s.setPhotometer p m).freeCount = s.freeCount := rfl
@[simp] theorem State.setPhotometer_pending (s : State) (p : Portal) (m : Photometer) :
    (s.setPhotometer p m).pending = s.pending := rfl

/-! ### setLine -/

@[simp] theorem State.setLine_monitor (s : State) (l : Line) (x : LinePort) :
    (s.setLine l x).monitor = s.monitor := rfl
@[simp] theorem State.setLine_pins (s : State) (l : Line) (x : LinePort) :
    (s.setLine l x).pins = s.pins := rfl
@[simp] theorem State.setLine_straps (s : State) (l : Line) (x : LinePort) :
    (s.setLine l x).straps = s.straps := rfl
@[simp] theorem State.setLine_plans (s : State) (l : Line) (x : LinePort) :
    (s.setLine l x).plans = s.plans := rfl
@[simp] theorem State.setLine_store (s : State) (l : Line) (x : LinePort) :
    (s.setLine l x).store = s.store := rfl
@[simp] theorem State.setLine_portals (s : State) (l : Line) (x : LinePort) :
    (s.setLine l x).portals = s.portals := rfl
@[simp] theorem State.setLine_photometers (s : State) (l : Line) (x : LinePort) :
    (s.setLine l x).photometers = s.photometers := rfl
@[simp] theorem State.setLine_engine (s : State) (l : Line) (x : LinePort) :
    (s.setLine l x).engine = s.engine := rfl
@[simp] theorem State.setLine_claims (s : State) (l : Line) (x : LinePort) :
    (s.setLine l x).claims = s.claims := rfl
@[simp] theorem State.setLine_safety (s : State) (l : Line) (x : LinePort) :
    (s.setLine l x).safety = s.safety := rfl
@[simp] theorem State.setLine_stage (s : State) (l : Line) (x : LinePort) :
    (s.setLine l x).stage = s.stage := rfl
@[simp] theorem State.setLine_faults (s : State) (l : Line) (x : LinePort) :
    (s.setLine l x).faults = s.faults := rfl
@[simp] theorem State.setLine_lines (s : State) (l : Line) (x : LinePort) :
    (s.setLine l x).lines = s.lines.set l x := rfl
@[simp] theorem State.setLine_freeCount (s : State) (l : Line) (x : LinePort) :
    (s.setLine l x).freeCount = s.freeCount := rfl
@[simp] theorem State.setLine_pending (s : State) (l : Line) (x : LinePort) :
    (s.setLine l x).pending = s.pending := rfl

/-! ### setTable -/

@[simp] theorem State.setTable_monitor (s : State) (t : List Claim) :
    (s.setTable t).monitor = s.monitor := rfl
@[simp] theorem State.setTable_pins (s : State) (t : List Claim) :
    (s.setTable t).pins = s.pins := rfl
@[simp] theorem State.setTable_straps (s : State) (t : List Claim) :
    (s.setTable t).straps = s.straps := rfl
@[simp] theorem State.setTable_plans (s : State) (t : List Claim) :
    (s.setTable t).plans = s.plans := rfl
@[simp] theorem State.setTable_store (s : State) (t : List Claim) :
    (s.setTable t).store = s.store := rfl
@[simp] theorem State.setTable_portals (s : State) (t : List Claim) :
    (s.setTable t).portals = s.portals := rfl
@[simp] theorem State.setTable_photometers (s : State) (t : List Claim) :
    (s.setTable t).photometers = s.photometers := rfl
@[simp] theorem State.setTable_engine (s : State) (t : List Claim) :
    (s.setTable t).engine = s.engine := rfl
@[simp] theorem State.setTable_claims (s : State) (t : List Claim) :
    (s.setTable t).claims = { s.claims with table := t } := rfl
@[simp] theorem State.setTable_safety (s : State) (t : List Claim) :
    (s.setTable t).safety = s.safety := rfl
@[simp] theorem State.setTable_stage (s : State) (t : List Claim) :
    (s.setTable t).stage = s.stage := rfl
@[simp] theorem State.setTable_faults (s : State) (t : List Claim) :
    (s.setTable t).faults = s.faults := rfl
@[simp] theorem State.setTable_lines (s : State) (t : List Claim) :
    (s.setTable t).lines = s.lines := rfl
@[simp] theorem State.setTable_freeCount (s : State) (t : List Claim) :
    (s.setTable t).freeCount = s.freeCount := rfl
@[simp] theorem State.setTable_pending (s : State) (t : List Claim) :
    (s.setTable t).pending = s.pending := rfl

/-! ### addressChar -/

@[simp] theorem State.addressChar_monitor (s : State) (l : Line) (v : Byte) :
    (s.addressChar l v).monitor = s.monitor := rfl
@[simp] theorem State.addressChar_pins (s : State) (l : Line) (v : Byte) :
    (s.addressChar l v).pins = s.pins := rfl
@[simp] theorem State.addressChar_straps (s : State) (l : Line) (v : Byte) :
    (s.addressChar l v).straps = s.straps := rfl
@[simp] theorem State.addressChar_plans (s : State) (l : Line) (v : Byte) :
    (s.addressChar l v).plans = s.plans := rfl
@[simp] theorem State.addressChar_store (s : State) (l : Line) (v : Byte) :
    (s.addressChar l v).store = s.store := rfl
@[simp] theorem State.addressChar_portals (s : State) (l : Line) (v : Byte) :
    (s.addressChar l v).portals = s.portals := rfl
@[simp] theorem State.addressChar_photometers (s : State) (l : Line) (v : Byte) :
    (s.addressChar l v).photometers = s.photometers := rfl
@[simp] theorem State.addressChar_engine (s : State) (l : Line) (v : Byte) :
    (s.addressChar l v).engine = s.engine := rfl
@[simp] theorem State.addressChar_claims (s : State) (l : Line) (v : Byte) :
    (s.addressChar l v).claims = s.claims := rfl
@[simp] theorem State.addressChar_safety (s : State) (l : Line) (v : Byte) :
    (s.addressChar l v).safety = s.safety := rfl
@[simp] theorem State.addressChar_stage (s : State) (l : Line) (v : Byte) :
    (s.addressChar l v).stage = s.stage := rfl
@[simp] theorem State.addressChar_faults (s : State) (l : Line) (v : Byte) :
    (s.addressChar l v).faults = s.faults := rfl
@[simp] theorem State.addressChar_lines (s : State) (l : Line) (v : Byte) :
    (s.addressChar l v).lines = s.lines.set l ((s.lines.get l).address (s.matches v) v) := rfl
@[simp] theorem State.addressChar_freeCount (s : State) (l : Line) (v : Byte) :
    (s.addressChar l v).freeCount = s.freeCount := rfl
@[simp] theorem State.addressChar_pending (s : State) (l : Line) (v : Byte) :
    (s.addressChar l v).pending = s.pending := rfl

/-! ### addressed -/

@[simp] theorem State.addressed_monitor (s : State) (l : Line) (bc : Bool) :
    (s.addressed l bc).monitor = s.monitor := rfl
@[simp] theorem State.addressed_pins (s : State) (l : Line) (bc : Bool) :
    (s.addressed l bc).pins = s.pins := rfl
@[simp] theorem State.addressed_straps (s : State) (l : Line) (bc : Bool) :
    (s.addressed l bc).straps = s.straps := rfl
@[simp] theorem State.addressed_plans (s : State) (l : Line) (bc : Bool) :
    (s.addressed l bc).plans = s.plans := rfl
@[simp] theorem State.addressed_store (s : State) (l : Line) (bc : Bool) :
    (s.addressed l bc).store = s.store := rfl
@[simp] theorem State.addressed_portals (s : State) (l : Line) (bc : Bool) :
    (s.addressed l bc).portals = s.portals := rfl
@[simp] theorem State.addressed_photometers (s : State) (l : Line) (bc : Bool) :
    (s.addressed l bc).photometers = s.photometers := rfl
@[simp] theorem State.addressed_engine (s : State) (l : Line) (bc : Bool) :
    (s.addressed l bc).engine = s.engine := rfl
@[simp] theorem State.addressed_claims (s : State) (l : Line) (bc : Bool) :
    (s.addressed l bc).claims = s.claims := rfl
@[simp] theorem State.addressed_safety (s : State) (l : Line) (bc : Bool) :
    (s.addressed l bc).safety = s.safety := rfl
@[simp] theorem State.addressed_stage (s : State) (l : Line) (bc : Bool) :
    (s.addressed l bc).stage = s.stage := rfl
@[simp] theorem State.addressed_faults (s : State) (l : Line) (bc : Bool) :
    (s.addressed l bc).faults = s.faults := rfl
@[simp] theorem State.addressed_lines (s : State) (l : Line) (bc : Bool) :
    (s.addressed l bc).lines = s.lines.set l ((s.lines.get l).address (s.matches (s.frameAddress bc)) (s.frameAddress bc)) := rfl
@[simp] theorem State.addressed_freeCount (s : State) (l : Line) (bc : Bool) :
    (s.addressed l bc).freeCount = s.freeCount := rfl
@[simp] theorem State.addressed_pending (s : State) (l : Line) (bc : Bool) :
    (s.addressed l bc).pending = s.pending := rfl

/-! ### listening -/

@[simp] theorem State.listening_monitor (s : State) (l : Line) :
    (s.listening l).monitor = s.monitor := rfl
@[simp] theorem State.listening_pins (s : State) (l : Line) :
    (s.listening l).pins = s.pins := rfl
@[simp] theorem State.listening_straps (s : State) (l : Line) :
    (s.listening l).straps = s.straps := rfl
@[simp] theorem State.listening_plans (s : State) (l : Line) :
    (s.listening l).plans = s.plans := rfl
@[simp] theorem State.listening_store (s : State) (l : Line) :
    (s.listening l).store = s.store := rfl
@[simp] theorem State.listening_portals (s : State) (l : Line) :
    (s.listening l).portals = s.portals := rfl
@[simp] theorem State.listening_photometers (s : State) (l : Line) :
    (s.listening l).photometers = s.photometers := rfl
@[simp] theorem State.listening_engine (s : State) (l : Line) :
    (s.listening l).engine = s.engine := rfl
@[simp] theorem State.listening_claims (s : State) (l : Line) :
    (s.listening l).claims = s.claims := rfl
@[simp] theorem State.listening_safety (s : State) (l : Line) :
    (s.listening l).safety = s.safety := rfl
@[simp] theorem State.listening_stage (s : State) (l : Line) :
    (s.listening l).stage = s.stage := rfl
@[simp] theorem State.listening_faults (s : State) (l : Line) :
    (s.listening l).faults = s.faults := rfl
@[simp] theorem State.listening_lines (s : State) (l : Line) :
    (s.listening l).lines = s.lines.set l (s.lines.get l).afterBroadcast := rfl
@[simp] theorem State.listening_freeCount (s : State) (l : Line) :
    (s.listening l).freeCount = s.freeCount := rfl
@[simp] theorem State.listening_pending (s : State) (l : Line) :
    (s.listening l).pending = s.pending := rfl

/-! ### answered -/

@[simp] theorem State.answered_monitor (s : State) (l : Line) (k : Byte) (a : Answer) :
    (s.answered l k a).monitor = s.monitor := rfl
@[simp] theorem State.answered_pins (s : State) (l : Line) (k : Byte) (a : Answer) :
    (s.answered l k a).pins = s.pins := rfl
@[simp] theorem State.answered_straps (s : State) (l : Line) (k : Byte) (a : Answer) :
    (s.answered l k a).straps = s.straps := rfl
@[simp] theorem State.answered_plans (s : State) (l : Line) (k : Byte) (a : Answer) :
    (s.answered l k a).plans = s.plans := rfl
@[simp] theorem State.answered_store (s : State) (l : Line) (k : Byte) (a : Answer) :
    (s.answered l k a).store = s.store := rfl
@[simp] theorem State.answered_portals (s : State) (l : Line) (k : Byte) (a : Answer) :
    (s.answered l k a).portals = s.portals := rfl
@[simp] theorem State.answered_photometers (s : State) (l : Line) (k : Byte) (a : Answer) :
    (s.answered l k a).photometers = s.photometers := rfl
@[simp] theorem State.answered_engine (s : State) (l : Line) (k : Byte) (a : Answer) :
    (s.answered l k a).engine = s.engine := rfl
@[simp] theorem State.answered_claims (s : State) (l : Line) (k : Byte) (a : Answer) :
    (s.answered l k a).claims = s.claims := rfl
@[simp] theorem State.answered_safety (s : State) (l : Line) (k : Byte) (a : Answer) :
    (s.answered l k a).safety = s.safety := rfl
@[simp] theorem State.answered_stage (s : State) (l : Line) (k : Byte) (a : Answer) :
    (s.answered l k a).stage = s.stage := rfl
@[simp] theorem State.answered_faults (s : State) (l : Line) (k : Byte) (a : Answer) :
    (s.answered l k a).faults = s.faults := rfl
@[simp] theorem State.answered_lines (s : State) (l : Line) (k : Byte) (a : Answer) :
    (s.answered l k a).lines = s.lines.set l ((s.lines.get l).afterRequest (s.replyFrame k a)) := rfl
@[simp] theorem State.answered_freeCount (s : State) (l : Line) (k : Byte) (a : Answer) :
    (s.answered l k a).freeCount = s.freeCount := rfl
@[simp] theorem State.answered_pending (s : State) (l : Line) (k : Byte) (a : Answer) :
    (s.answered l k a).pending = s.pending := rfl

/-! ### What the updates leave of the functions of the state -/

@[simp] theorem State.setPortal_started (s : State) (p : Portal) (u : PortalUnit) : (s.setPortal p u).started = s.started := rfl
@[simp] theorem State.setPortal_replyFrame (s : State) (p : Portal) (u : PortalUnit) (k' : Byte) (a' : Answer) :
    (s.setPortal p u).replyFrame k' a' = s.replyFrame k' a' := rfl
@[simp] theorem State.setPhotometer_started (s : State) (p : Portal) (m : Photometer) : (s.setPhotometer p m).started = s.started := rfl
@[simp] theorem State.setPhotometer_replyFrame (s : State) (p : Portal) (m : Photometer) (k' : Byte) (a' : Answer) :
    (s.setPhotometer p m).replyFrame k' a' = s.replyFrame k' a' := rfl
@[simp] theorem State.setLine_started (s : State) (l : Line) (x : LinePort) : (s.setLine l x).started = s.started := rfl
@[simp] theorem State.setLine_replyFrame (s : State) (l : Line) (x : LinePort) (k' : Byte) (a' : Answer) :
    (s.setLine l x).replyFrame k' a' = s.replyFrame k' a' := rfl
@[simp] theorem State.setTable_started (s : State) (t : List Claim) : (s.setTable t).started = s.started := rfl
@[simp] theorem State.setTable_replyFrame (s : State) (t : List Claim) (k' : Byte) (a' : Answer) :
    (s.setTable t).replyFrame k' a' = s.replyFrame k' a' := rfl
@[simp] theorem State.addressChar_started (s : State) (l : Line) (v : Byte) : (s.addressChar l v).started = s.started := rfl
@[simp] theorem State.addressChar_replyFrame (s : State) (l : Line) (v : Byte) (k' : Byte) (a' : Answer) :
    (s.addressChar l v).replyFrame k' a' = s.replyFrame k' a' := rfl
@[simp] theorem State.addressed_started (s : State) (l : Line) (bc : Bool) : (s.addressed l bc).started = s.started := rfl
@[simp] theorem State.addressed_replyFrame (s : State) (l : Line) (bc : Bool) (k' : Byte) (a' : Answer) :
    (s.addressed l bc).replyFrame k' a' = s.replyFrame k' a' := rfl
@[simp] theorem State.listening_started (s : State) (l : Line) : (s.listening l).started = s.started := rfl
@[simp] theorem State.listening_replyFrame (s : State) (l : Line) (k' : Byte) (a' : Answer) :
    (s.listening l).replyFrame k' a' = s.replyFrame k' a' := rfl
@[simp] theorem State.answered_started (s : State) (l : Line) (k : Byte) (a : Answer) : (s.answered l k a).started = s.started := rfl
@[simp] theorem State.answered_replyFrame (s : State) (l : Line) (k : Byte) (a : Answer) (k' : Byte) (a' : Answer) :
    (s.answered l k a).replyFrame k' a' = s.replyFrame k' a' := rfl

@[simp] theorem State.setPortal_self (s : State) (p : Portal) : s.setPortal p (s.portals.get p) = s := by
  cases s; simp [State.setPortal]

@[simp] theorem State.setPhotometer_self (s : State) (p : Portal) : s.setPhotometer p (s.photometers.get p) = s := by
  cases s; simp [State.setPhotometer]

@[simp] theorem State.setLine_self (s : State) (l : Line) : s.setLine l (s.lines.get l) = s := by
  cases s; simp [State.setLine]

@[simp] theorem State.setLine_setLine (s : State) (l : Line) (x y : LinePort) :
    (s.setLine l x).setLine l y = s.setLine l y := by
  simp [State.setLine]

/-! ### What the updates of a line port leave of it -/

@[simp] theorem LinePort.reject_state (x : LinePort) : x.reject.state = .listen := rfl
@[simp] theorem LinePort.reject_frame (x : LinePort) : x.reject.frame = [] := rfl
@[simp] theorem LinePort.reject_reply (x : LinePort) : x.reject.reply = x.reply := rfl
@[simp] theorem LinePort.reject_silence (x : LinePort) : x.reject.silence = none := rfl
@[simp] theorem LinePort.reject_sent (x : LinePort) : x.reject.sent = x.sent := rfl
@[simp] theorem LinePort.reject_rejected (x : LinePort) : x.reject.rejected = bump x.rejected := rfl
@[simp] theorem LinePort.reject_dropped (x : LinePort) : x.reject.dropped = x.dropped := rfl

@[simp] theorem LinePort.dropReply_state (x : LinePort) : x.dropReply.state = .listen := rfl
@[simp] theorem LinePort.dropReply_frame (x : LinePort) : x.dropReply.frame = x.frame := rfl
@[simp] theorem LinePort.dropReply_reply (x : LinePort) : x.dropReply.reply = [] := rfl
@[simp] theorem LinePort.dropReply_silence (x : LinePort) : x.dropReply.silence = none := rfl
@[simp] theorem LinePort.dropReply_sent (x : LinePort) : x.dropReply.sent = x.sent := rfl
@[simp] theorem LinePort.dropReply_rejected (x : LinePort) : x.dropReply.rejected = x.rejected := rfl
@[simp] theorem LinePort.dropReply_dropped (x : LinePort) : x.dropReply.dropped = bump x.dropped := rfl

@[simp] theorem LinePort.afterBroadcast_state (x : LinePort) : x.afterBroadcast.state = .listen := rfl
@[simp] theorem LinePort.afterBroadcast_frame (x : LinePort) : x.afterBroadcast.frame = [] := rfl
@[simp] theorem LinePort.afterBroadcast_reply (x : LinePort) : x.afterBroadcast.reply = x.reply := rfl
@[simp] theorem LinePort.afterBroadcast_silence (x : LinePort) : x.afterBroadcast.silence = none := rfl
@[simp] theorem LinePort.afterBroadcast_sent (x : LinePort) : x.afterBroadcast.sent = x.sent := rfl
@[simp] theorem LinePort.afterBroadcast_rejected (x : LinePort) : x.afterBroadcast.rejected = x.rejected := rfl
@[simp] theorem LinePort.afterBroadcast_dropped (x : LinePort) : x.afterBroadcast.dropped = x.dropped := rfl

@[simp] theorem LinePort.zeroCounts_state (x : LinePort) : x.zeroCounts.state = x.state := rfl
@[simp] theorem LinePort.zeroCounts_frame (x : LinePort) : x.zeroCounts.frame = x.frame := rfl
@[simp] theorem LinePort.zeroCounts_reply (x : LinePort) : x.zeroCounts.reply = x.reply := rfl
@[simp] theorem LinePort.zeroCounts_silence (x : LinePort) : x.zeroCounts.silence = x.silence := rfl
@[simp] theorem LinePort.zeroCounts_sent (x : LinePort) : x.zeroCounts.sent = x.sent := rfl
@[simp] theorem LinePort.zeroCounts_rejected (x : LinePort) : x.zeroCounts.rejected = 0 := rfl
@[simp] theorem LinePort.zeroCounts_dropped (x : LinePort) : x.zeroCounts.dropped = 0 := rfl

@[simp] theorem LinePort.afterRequest_state (r : List Byte) (x : LinePort) :
    (x.afterRequest r).state = .turnaround := rfl
@[simp] theorem LinePort.afterRequest_frame (r : List Byte) (x : LinePort) :
    (x.afterRequest r).frame = [] := rfl
@[simp] theorem LinePort.afterRequest_reply (r : List Byte) (x : LinePort) :
    (x.afterRequest r).reply = r := rfl
@[simp] theorem LinePort.afterRequest_silence (r : List Byte) (x : LinePort) :
    (x.afterRequest r).silence = some 0 := rfl
@[simp] theorem LinePort.afterRequest_sent (r : List Byte) (x : LinePort) :
    (x.afterRequest r).sent = x.sent := rfl
@[simp] theorem LinePort.afterRequest_rejected (r : List Byte) (x : LinePort) :
    (x.afterRequest r).rejected = x.rejected := rfl
@[simp] theorem LinePort.afterRequest_dropped (r : List Byte) (x : LinePort) :
    (x.afterRequest r).dropped = x.dropped := rfl

end Machine

end Sys2Proof
end

