-- ==== Sys2Proof/Laws/Clock.lean ====
section
/-! SUPPORT. What one clock can do to each block, said once: which events fall due, each under its own condition, and how
its timers move. -/

namespace Sys2Proof.Machine

/-! ### The events of each block -/

/-- A tick falls due at the last clock of its 100 ms. -/
theorem PortalUnit.clock_events (p : Portal) (u : PortalUnit) :
    (u.clock p).2 = if 1600000 ≤ u.tickPhase + 1 then [.tick p] else [] := by
  unfold PortalUnit.clock Config.clocksPer100ms; split <;> rfl

/-- An interval timer expires at the last clock of its last millisecond. -/
theorem Photometer.intervalClock_events (p : Portal) (m : Photometer) :
    (m.intervalClock p).2 =
      if 16000 ≤ m.msPhase + 1 ∧ ∃ n, m.interval = some n ∧ n ≤ 1 then [.intervalTimerExpiry p] else [] := by
  unfold Photometer.intervalClock Config.clocksPerMs
  cases m.interval with
  | none => simp
  | some n => by_cases h : 16000 ≤ m.msPhase + 1 <;> by_cases h' : n ≤ 1 <;> simp [h, h']

/-- A timeout falls due at the 65,536th capture clock of its measurement state. -/
theorem Photometer.captureClock_events (p : Portal) (m : Photometer) :
    (m.captureClock p).2 =
      (if m.state = .armed ∧ 65536 ≤ m.edgeWindow + 1 then [.firstEdgeTimeout p] else [])
        ++ if m.state = .counting ∧ 65536 ≤ m.captureCount + 1 then [.countOverflowTimeout p] else [] := by
  unfold Photometer.captureClock Config.captureLimit
  cases h : m.state <;> simp
  · split <;> rfl
  · split <;> rfl

/-- The interval timer's clock leaves the measurement as it is. -/
theorem Photometer.intervalClock_measurement (p : Portal) (m : Photometer) :
    (m.intervalClock p).1 =
      { m with interval := (m.intervalClock p).1.interval, msPhase := (m.intervalClock p).1.msPhase } := by
  unfold Photometer.intervalClock
  split
  · rfl
  · split
    · split <;> rfl
    · rfl

/-- The capture clock leaves the interval timer as it is. -/
theorem Photometer.captureClock_measurement (p : Portal) (m : Photometer) :
    (m.captureClock p).1 =
      { m with
        edgeWindow :=
          if m.state = .armed ∧ m.edgeWindow + 1 < 65536 then m.edgeWindow + 1 else m.edgeWindow
        captureCount :=
          if m.state = .counting ∧ m.captureCount + 1 < 65536 then m.captureCount + 1 else m.captureCount
        sinceEdge := (m.captureClock p).1.sinceEdge } := by
  unfold Photometer.captureClock Photometer.passClocks Config.captureLimit
  cases m with
  | mk state _ _ _ _ window count _ _ _ _ =>
    cases state
    · rfl
    · rfl
    · by_cases h : 65536 ≤ window + 1
      · simp only [if_pos h, if_neg (Nat.not_lt.2 h), true_and]; rfl
      · simp only [if_neg h, if_pos (Nat.lt_of_not_le h), true_and]; rfl
    · by_cases h : 65536 ≤ count + 1
      · simp only [if_pos h, if_neg (Nat.not_lt.2 h), true_and]; rfl
      · simp only [if_neg h, if_pos (Nat.lt_of_not_le h), true_and]; rfl

/-- The clock of a photometer: its interval timer, and its measurement where the capture clock ticks. -/
theorem Photometer.clock_events (p : Portal) (capture : Bool) (m : Photometer) :
    (m.clock p capture).2 =
      (if capture then (m.captureClock p).2 else []) ++ (m.intervalClock p).2 := by
  unfold Photometer.clock
  have h := Photometer.intervalClock_measurement p m
  cases capture with
  | false => simp
  | true =>
    simp only [if_true]
    rw [Photometer.captureClock_events, Photometer.captureClock_events, h]

/-- The claim check falls due at the last clock of its 100 ms. -/
theorem ClaimTable.clock_events (t : ClaimTable) :
    t.clock.2 = if 1600000 ≤ t.phase + 1 then [.claimCheck] else [] := by
  unfold ClaimTable.clock Config.clocksPer100ms; split <;> rfl

/-- The level pass falls due at the last clock of the pass timer's last unit. -/
theorem ZoneEngine.clock_events (e : ZoneEngine) :
    e.clock.2 = if 1600000 ≤ e.passPhase + 1 ∧ e.passTimer ≤ 1 then [.levelPass] else [] := by
  unfold ZoneEngine.clock Config.clocksPer100ms
  by_cases h : 1600000 ≤ e.passPhase + 1 <;> by_cases h' : e.passTimer ≤ 1 <;> simp [h, h']

/-- What one clock does to the safety inputs: the sample timer and the TRIP qualification, each with its event. -/
theorem SafetyInputs.clock_eq (pins : Pins) (x : SafetyInputs) :
    (x.clock pins).1 =
        { x with
          samplePhase := if 16000 ≤ x.samplePhase + 1 then x.samplePhase else x.samplePhase + 1
          qualifying := x.qualifying.map fun n => if 16 ≤ n + 1 then n else n + 1 }
      ∧ (x.clock pins).2 =
        (if (∃ n, x.qualifying = some n ∧ 16 ≤ n + 1) then
            [if x.trip then .tripReleaseAccepted else .tripAssertionAccepted] else [])
          ++ if 16000 ≤ x.samplePhase + 1 then [.sampleEvent pins.fireN pins.backupN] else [] := by
  cases x with
  | mk _ _ _ trip qualifying _ _ _ phase =>
    unfold SafetyInputs.clock SafetyInputs.sampleClock SafetyInputs.tripClock Config.clocksPerMs Config.clocksPerUs
    cases qualifying with
    | none => by_cases h : 16000 ≤ phase + 1 <;> simp [h]
    | some n =>
      by_cases h : 16000 ≤ phase + 1 <;> by_cases h' : 15 ≤ n <;> simp [h, h']

/-- A tick of the PWM clock at the stage: the counter moves, or the period ends. -/
theorem Stage.clock_eq (pins : Pins) (x : Stage) :
    (x.clock pins).1 = { x with counter := if x.counter + 1 < x.period then x.counter + 1 else x.counter }
      ∧ (x.clock pins).2 =
        (if x.period ≤ x.counter + 1 ∧ x.repetition ≤ x.refreshCount + 1 then [.refresh pins.flt] else [])
          ++ if x.period ≤ x.counter + 1 ∧ x.refreshCount + 1 < x.repetition then [.periodEnd] else [] := by
  unfold Stage.clock
  by_cases h : x.period ≤ x.counter + 1
  · by_cases h' : x.repetition ≤ x.refreshCount + 1
    · simp [h, h', Nat.not_lt.2 h, Nat.not_lt.2 h']
    · simp [h, h', Nat.not_lt.2 h, Nat.lt_of_not_le h']
  · simp [h, Nat.lt_of_not_le h]

/-- The events of a line port, each in its own line state. -/
theorem LinePort.clock_events (l : Line) (rate : BitVec 2) (x : LinePort) :
    (x.clock l rate).2 =
      (if x.state = .collect ∧ lastsChars rate 3 (x.silence.getD 0 + 1) = true then [.gapTimeout l] else [])
        ++ (if x.state = .turnaround ∧ lastsChars rate 2 (x.silence.getD 0 + 1) = true then [.turnaroundSilence l] else [])
        ++ if x.state = .reply ∧ lastsChars rate x.reply.length (x.sent + 1) = true then [.replyEnd l] else [] := by
  unfold LinePort.clock
  cases x.state with
  | listen => simp
  | collect => cases h : lastsChars rate 3 (x.silence.getD 0 + 1) <;> simp [h]
  | turnaround => cases h : lastsChars rate 2 (x.silence.getD 0 + 1) <;> simp [h]
  | reply => cases lastsChars rate x.reply.length (x.sent + 1) <;> simp

/-- The events of the store, each in its own store state. -/
theorem Store.clock_events (free : Nat) (x : Store) :
    (x.clock free).2 =
      (if x.state = .erasing ∧ 192000 ≤ x.phase + 1 then [.pageErased] else [])
        ++ (if x.state = .programming ∧ 640 ≤ x.phase + 1 ∧ 512 ≤ x.index + 1 then [.programmingComplete] else [])
        ++ if x.state = .verifying ∧ 8832 ≤ x.phase + 1 then
            [.verifyComplete (Config.readBackDiffers free) (Config.markerReadBack free)] else [] := by
  unfold Store.clock Config.eraseClocks Config.programClocks Config.verifyClocks Config.imageSize
  cases h : x.state <;> simp
  · split <;> rfl
  · by_cases h1 : x.phase < 639
    · simp [show x.phase + 1 < 640 by omega, Nat.not_le.2 h1]
    · by_cases h2 : 511 ≤ x.index
      · simp [show ¬x.phase + 1 < 640 by omega, h2, Nat.le_of_not_lt h1]
      · simp [show ¬x.phase + 1 < 640 by omega, h2]
  · split <;> rfl

/-- The queue after a clock of a started part: every block's events, in one fixed order. -/
theorem State.clock_pending {s : State} (h : s.started = true) :
    s.clock.pending =
      s.pending ++ (s.safety.clock s.pins).2 ++ (s.portals.a.clock .a).2 ++ (s.portals.b.clock .b).2
        ++ (s.photometers.a.clock .a ((s.monitor.divider + 1) % 16 == 0)).2
        ++ (s.photometers.b.clock .b ((s.monitor.divider + 1) % 16 == 0)).2 ++ s.claims.clock.2 ++ s.engine.clock.2
        ++ (if (s.monitor.divider + 1) % 4 = 0 then s.stage.clock s.pins else (s.stage, [])).2
        ++ (s.lines.a.clock .a s.straps.rate).2 ++ (s.lines.b.clock .b s.straps.rate).2
        ++ (s.lines.s.clock .s s.straps.rate).2 ++ (s.store.clock s.freeCount).2 := by
  have hp : s.monitor.phase = .run := by simpa [State.started] using h
  have hd : (s.monitor.divider + 1) % 16 % 4 = (s.monitor.divider + 1) % 4 := by omega
  simp only [State.clock, hp, State.clockRun, Config.clocksPerUs, Config.clocksPerPwm, hd]

end Sys2Proof.Machine
end

