-- ==== Sys2Proof/Laws/Ops.lean ====
section
/-! SUPPORT. One lemma for each shared operation that says what it can do, cited instead of unfolding it. -/

namespace Sys2Proof.Machine

/-! ### Rounding and counters -/

/-- A number of units covers a / b exactly when it reaches the rounded quotient. -/
theorem ceilDiv_le_iff {a b d : Nat} (hb : 0 < b) : ceilDiv a b ≤ d ↔ a ≤ d * b := by
  unfold ceilDiv
  rw [Nat.div_le_iff_le_mul_add_pred hb, Nat.mul_comm]
  omega

/-- The rounded quotient covers its dividend. -/
theorem le_ceilDiv_mul {a b : Nat} (hb : 0 < b) : a ≤ ceilDiv a b * b := (ceilDiv_le_iff hb).1 le_rfl

@[simp] theorem ceilDiv_zero {b : Nat} (hb : 0 < b) : ceilDiv 0 b = 0 := by
  have := (ceilDiv_le_iff (a := 0) (d := 0) hb).2 (by omega)
  omega

/-- A quotient that comes out whole is not rounded. -/
theorem ceilDiv_mul_self {b d : Nat} (hb : 0 < b) : ceilDiv (d * b) b = d := by
  refine le_antisymm ((ceilDiv_le_iff hb).2 le_rfl) ?_
  exact Nat.le_of_mul_le_mul_right (le_ceilDiv_mul hb) hb

theorem bump_le (n : Nat) : bump n ≤ 65535 := by unfold bump; omega

/-! ### Fields -/

@[simp] theorem u8_toNat (n : Nat) : (u8 n).toNat = n % 256 := by simp [u8]

theorem u8_toNat_of_lt {n : Nat} (h : n < 256) : (u8 n).toNat = n := by rw [u8_toNat]; omega

@[simp] theorem u8_of_toNat (b : Byte) : u8 b.toNat = b := by simp [u8]

/-- A two-character field carries its number. -/
theorem nat16_be16 {n : Nat} (h : n < 65536) : nat16 (u8 (n / 256)) (u8 n) = n := by
  unfold nat16; simp only [u8_toNat]; omega

/-- A three-character field carries its number. -/
theorem nat24_be24 {n : Nat} (h : n < 16777216) : nat24 (u8 (n / 65536)) (u8 (n / 256)) (u8 n) = n := by
  unfold nat24; simp only [u8_toNat]; omega

/-- The characters of the number in a two-character field are those it came from. -/
theorem be16_nat16 (h l : Byte) : be16 (nat16 h l) = [h, l] := by
  have h1 := h.isLt
  have h2 := l.isLt
  have e1 : (h.toNat * 256 + l.toNat) / 256 = h.toNat := by omega
  have e2 : u8 (h.toNat * 256 + l.toNat) = l := by
    apply BitVec.eq_of_toNat_eq; rw [u8_toNat]; omega
  simp [be16, nat16, e1, e2]

@[simp] theorem be16_length (n : Nat) : (be16 n).length = 2 := rfl

@[simp] theorem be24_length (n : Nat) : (be24 n).length = 3 := rfl

/-! ### Lists of options and pieces -/

@[simp] theorem allSome_nil {α : Type} : allSome ([] : List (Option α)) = some [] := rfl

@[simp] theorem allSome_none {α : Type} (l : List (Option α)) : allSome (none :: l) = none := rfl

@[simp] theorem allSome_some {α : Type} (x : α) (l : List (Option α)) :
    allSome (some x :: l) = (allSome l).map (x :: ·) := by
  simp only [allSome]; cases allSome l <;> rfl

/-- All of a list are present exactly when it is the list of its values. -/
theorem allSome_eq_some {α : Type} {l : List (Option α)} {xs : List α} : allSome l = some xs ↔ l = xs.map some := by
  induction l generalizing xs with
  | nil => cases xs <;> simp
  | cons o l ih =>
    cases o with
    | none => cases xs <;> simp
    | some x => cases xs <;> simp [ih, and_comm]

theorem checked_eq_some {α : Type} {ok : α → Bool} {x y : α} : checked ok x = some y ↔ ok x = true ∧ x = y := by
  unfold checked; split <;> simp_all

@[simp] theorem chunks_length (k n : Nat) (l : List Byte) : (chunks k n l).length = n := by
  induction n generalizing l with
  | zero => rfl
  | succ n ih => simp [chunks, ih]

/-- Pieces of one length, joined and cut again, are themselves. -/
theorem chunks_flatMap {α : Type} {k : Nat} (f : α → List Byte) (xs : List α) (rest : List Byte)
    (h : ∀ x ∈ xs, (f x).length = k) : chunks k xs.length (xs.flatMap f ++ rest) = xs.map f := by
  induction xs with
  | nil => rfl
  | cons x xs ih =>
    have hx : (f x).length = k := h x (List.mem_cons_self ..)
    have hr := ih fun y hy => h y (List.mem_cons_of_mem _ hy)
    simp only [List.length_cons, chunks, List.flatMap_cons, List.append_assoc, List.map_cons]
    rw [← hx, List.take_left, List.drop_left, hx, hr]

/-! ### Frames -/

theorem charSum_append (l m : List Byte) : charSum (l ++ m) = charSum l + charSum m := by
  induction l with
  | nil => simp [charSum]
  | cons a l ih =>
    simp only [charSum, List.cons_append, List.foldr_cons] at *
    rw [ih]; ac_rfl

/-- CHECK makes the sum of a whole frame 0. -/
theorem charSum_frameOf (a : Byte) (body : List Byte) : charSum (frameOf a body) = 0 := by
  simp only [frameOf, charSum_append]
  have h : charSum [checkOf (a :: u8 body.length :: body)] = -charSum (a :: u8 body.length :: body) := by
    simp [charSum, checkOf]
  rw [h]
  exact BitVec.add_right_neg _

/-- The modulo-256 sum of characters through their numbers. -/
theorem charSum_toNat (l : List Byte) : (charSum l).toNat = (l.map BitVec.toNat).sum % 256 := by
  induction l with
  | nil => rfl
  | cons a l ih =>
    simp only [charSum, List.foldr_cons, List.map_cons, List.sum_cons, BitVec.toNat_add] at *
    rw [ih]; omega

/-- The codes of the listed kinds are those of the request table, each of its own kind. -/
theorem Kind.ofCode_code (k : Kind) : Kind.ofCode k.code = some k := by cases k <;> rfl

theorem Kind.ofCode_eq_some {b : Byte} {k : Kind} (h : Kind.ofCode b = some k) : k.code = b := by
  have := List.find?_some h
  simpa using this

theorem Kind.ofCode_eq_none {b : Byte} (h : ∀ k : Kind, k.code ≠ b) : Kind.ofCode b = none := by
  unfold Kind.ofCode
  rw [List.find?_eq_none]
  intro k _
  simpa using h k

/-! ### The sample window -/

/-- An entry leaves at most 8 records. -/
theorem pushSample_length (w : List Sample) (x : Sample) : (pushSample w x).length = min (w.length + 1) 8 := by
  simp only [pushSample, Config.windowSize, List.length_drop, List.length_append, List.length_singleton]; omega

/-- Entry into a window of fewer than 8 records, and of 8. -/
theorem pushSample_eq (w : List Sample) (x : Sample) (h : w.length ≤ 8) :
    pushSample w x = (if w.length < 8 then w else w.tail) ++ [x] := by
  unfold pushSample
  split
  · rename_i h8
    rw [show w.length + 1 - Config.windowSize = 0 by simp [Config.windowSize]; omega]; rfl
  · rename_i h8
    have h9 : w.length = 8 := by omega
    rw [show w.length + 1 - Config.windowSize = 1 by simp [Config.windowSize]; omega]
    cases w with
    | nil => simp at h9
    | cons a w => rfl

theorem pushSample_ne_nil (w : List Sample) (x : Sample) : pushSample w x ≠ [] := by
  have := pushSample_length w x
  intro h
  rw [h, List.length_nil] at this
  omega

/-- Every record of the window after an entry was there or is the one entered. -/
theorem mem_pushSample {w : List Sample} {x y : Sample} (h : y ∈ pushSample w x) : y ∈ w ∨ y = x := by
  have := List.mem_of_mem_drop h
  simpa using this

/-- The median is one of the values, or 0 where there is none. -/
theorem upperMedian_mem (l : List Nat) : upperMedian l ∈ l ∨ (l = [] ∧ upperMedian l = 0) := by
  by_cases h : l = []
  · right; subst h; exact ⟨rfl, rfl⟩
  · left
    have hp : (l.insertionSort (· ≤ ·)).Perm l := List.perm_insertionSort _ l
    have hl : l.length / 2 < (l.insertionSort (· ≤ ·)).length := by
      rw [hp.length_eq]
      have := List.length_pos_of_ne_nil h
      omega
    rw [← hp.mem_iff]
    unfold upperMedian
    rw [List.getD_eq_getElem _ _ hl]
    exact List.getElem_mem hl

/-- The used samples are samples of the window. -/
theorem mem_usedSamples {w : List Sample} {x : Sample} (h : x ∈ usedSamples w) : x ∈ w := by
  unfold usedSamples at h
  split at h <;> exact (List.mem_filter.1 h).1

/-- A bound of every value of a window bounds its median. -/
theorem windowMedian_le {w : List Sample} {n : Nat} (h : ∀ x ∈ w, x.value ≤ n) : windowMedian w ≤ n := by
  rcases upperMedian_mem ((usedSamples w).map Sample.value) with hm | ⟨-, h0⟩
  · obtain ⟨x, hx, he⟩ := List.mem_map.1 hm
    unfold windowMedian
    rw [← he]
    exact h x (mem_usedSamples hx)
  · unfold windowMedian
    omega

/-! ### Portal units -/

/-- Deriving the figure again changes the effective luminance alone. -/
theorem PortalUnit.derive_eq (u : PortalUnit) : u.derive = { u with effLum := u.figure } := rfl

/-- All that an entry does. -/
theorem PortalUnit.enter_eq (u : PortalUnit) (v : Nat) (src : Source) (q : Quality) :
    u.enter v src q =
      { u with
        window := pushSample u.window ⟨v, src, q, u.timeBase⟩, state := .live, holdTimer := none
        effLum := windowMedian (pushSample u.window ⟨v, src, q, u.timeBase⟩) } := rfl

/-- All that the loss of records can do: nothing to an empty window, a window run dry, or a figure derived again. -/
theorem PortalUnit.keep_cases (u : PortalUnit) (w : List Sample) :
    (u.window = [] ∧ u.keep w = u) ∨ (u.window ≠ [] ∧ w = [] ∧ u.keep w = u.runDry)
      ∨ (u.window ≠ [] ∧ w ≠ [] ∧ u.keep w = ({ u with window := w }).derive) := by
  unfold PortalUnit.keep
  by_cases h : u.window = []
  · simp [h]
  · by_cases h' : w = [] <;> simp [h, h']

/-- A window run dry: HOLD with its timer, or DEFAULT at once. -/
theorem PortalUnit.runDry_cases (u : PortalUnit) :
    (u.holdTime = 0 ∧ u.runDry =
        { u with window := [], heldLum := u.effLum, state := .fallback, holdTimer := none, effLum := u.defaultLum })
      ∨ (0 < u.holdTime ∧ u.runDry =
        { u with window := [], heldLum := u.effLum, state := .hold, holdTimer := some (10 * u.holdTime) }) := by
  unfold PortalUnit.runDry
  split
  · simp [*]
  · right; exact ⟨by omega, rfl⟩

/-- The hold timer's countdown: no timer, the expiry, or one tick less. -/
theorem PortalUnit.countDown_cases (u : PortalUnit) :
    (u.holdTimer = none ∧ u.countDown = u)
      ∨ (∃ c, u.holdTimer = some c ∧ c ≤ 1
          ∧ u.countDown = { u with holdTimer := none, state := .fallback, effLum := u.defaultLum })
      ∨ (∃ c, u.holdTimer = some c ∧ 1 < c ∧ u.countDown = { u with holdTimer := some (c - 1) }) := by
  unfold PortalUnit.countDown
  cases h : u.holdTimer with
  | none => simp
  | some c =>
    by_cases hc : c ≤ 1
    · right; left; exact ⟨c, rfl, hc, by simp [hc]; rfl⟩
    · right; right; exact ⟨c, rfl, by omega, by simp [hc]⟩

/-! ### Filters -/

/-- The three effects of a sample on a filter. -/
theorem Filter.sample_cases (f : Filter) (x : Bool) :
    (x = f.asserted ∧ f.sample x = ⟨f.asserted, 0⟩)
      ∨ (x ≠ f.asserted ∧ f.run < 7 ∧ f.sample x = ⟨f.asserted, f.run + 1⟩)
      ∨ (x ≠ f.asserted ∧ 7 ≤ f.run ∧ f.sample x = ⟨x, 0⟩) := by
  unfold Filter.sample
  by_cases h : x = f.asserted
  · simp [h]
  · by_cases h' : f.run < 7
    · simp [h, h']
    · right; right
      exact ⟨h, by omega, by simp [h, h']⟩

/-! ### Levels -/

/-- The applied level after a pass lies between the level before it and the target, both included. -/
theorem stepApplied_between (seeding latch backup : Bool) (cap rise fall target applied : Nat) :
    min target applied ≤ stepApplied seeding latch backup cap rise fall target applied
      ∧ stepApplied seeding latch backup cap rise fall target applied ≤ max target applied := by
  unfold stepApplied
  split_ifs <;> omega

theorem planClamp_le {r : ZoneRecord} {t n : Nat} (hf : r.floor ≤ n) (hc : r.ceiling ≤ n) : planClamp r t ≤ n := by
  unfold planClamp; split_ifs <;> omega

theorem highest_none {l : List Nat} : highest l = none ↔ l = [] := by
  cases l with
  | nil => simp [highest]
  | cons x xs => simp only [highest]; split <;> simp

/-- The highest of a list is a member, and no member is higher. -/
theorem highest_spec {l : List Nat} {x : Nat} (h : highest l = some x) : x ∈ l ∧ ∀ y ∈ l, y ≤ x := by
  induction l generalizing x with
  | nil => simp [highest] at h
  | cons a l ih =>
    simp only [highest] at h
    split at h
    · rename_i hn
      rw [highest_none] at hn
      subst hn
      simp_all
    · rename_i y hy
      obtain ⟨hm, hb⟩ := ih hy
      obtain rfl : max a y = x := by simpa using h
      refine ⟨?_, ?_⟩
      · rcases le_total a y with hl | hl
        · rw [max_eq_right hl]; exact List.mem_cons_of_mem _ hm
        · rw [max_eq_left hl]; exact List.mem_cons_self ..
      · intro z hz
        rcases List.mem_cons.1 hz with rfl | hz
        · exact le_max_left _ _
        · exact (hb z hz).trans (le_max_right _ _)

theorem lowest_none {l : List Nat} : lowest l = none ↔ l = [] := by
  cases l with
  | nil => simp [lowest]
  | cons x xs => simp only [lowest]; split <;> simp

/-- The lowest of a list is a member, and no member is lower. -/
theorem lowest_spec {l : List Nat} {x : Nat} (h : lowest l = some x) : x ∈ l ∧ ∀ y ∈ l, x ≤ y := by
  induction l generalizing x with
  | nil => simp [lowest] at h
  | cons a l ih =>
    simp only [lowest] at h
    split at h
    · rename_i hn
      rw [lowest_none] at hn
      subst hn
      simp_all
    · rename_i y hy
      obtain ⟨hm, hb⟩ := ih hy
      obtain rfl : min a y = x := by simpa using h
      refine ⟨?_, ?_⟩
      · rcases le_total a y with hl | hl
        · rw [min_eq_left hl]; exact List.mem_cons_self ..
        · rw [min_eq_right hl]; exact List.mem_cons_of_mem _ hm
      · intro z hz
        rcases List.mem_cons.1 hz with rfl | hz
        · exact min_le_left _ _
        · exact (min_le_right _ _).trans (hb z hz)

/-! ### The claim table -/

theorem heldClaim_isSome {t : List Claim} {o : Line} {i : Nat} :
    (heldClaim t o i).isSome = true ↔ ∃ c ∈ t, c.owner = o ∧ c.id = i := by
  simp [heldClaim]

/-- All that storing a claim can do: a renewal in its place, a new claim at the end, or no room. -/
theorem storeClaim_cases (t : List Claim) (c : Claim) :
    ((heldClaim t c.owner c.id).isSome = true ∧ storeClaim t c = some (renewClaim t c))
      ∨ ((heldClaim t c.owner c.id).isSome = false ∧ t.length < 16 ∧ storeClaim t c = some (t ++ [c]))
      ∨ ((heldClaim t c.owner c.id).isSome = false ∧ 16 ≤ t.length ∧ storeClaim t c = none) := by
  unfold storeClaim Config.tableSize
  by_cases h : (heldClaim t c.owner c.id).isSome = true
  · simp [h]
  · by_cases h' : t.length < 16
    · simp [h, h']
    · simp [h, h']; omega

/-! ### Output stage -/

/-- A channel's duty is never above the period. -/
theorem dutyOf_le (period : Nat) (r : ChannelRecord) (level : Nat) : dutyOf period r level ≤ period := by
  unfold dutyOf; split <;> omega

/-- All that a refresh settles of the stage state and the resume mark. -/
theorem settleStage_cases (st : StageState) (first resume : Bool) :
    (st = .running ∧ settleStage st first resume = (.running, resume))
      ∨ (st = .released ∧ settleStage st first resume = (if first then .running else .released, resume))
      ∨ (st = .tripped ∧ resume = false ∧ settleStage st first resume = (.tripped, false))
      ∨ (st = .tripped ∧ resume = true ∧ settleStage st first resume = (if first then .running else .released, false)) := by
  cases st <;> cases resume <;> simp [settleStage]

/-! ### Plan store -/

/-- A store in IDLE keeps its image at a reset, and a save in flight is abandoned. -/
theorem Store.abandoned_eq (x : Store) :
    x.abandoned.state = .idle ∧ x.abandoned.snapshot = none ∧ x.abandoned.result = .none
      ∧ (x.state ≠ .erasing → x.abandoned.image = x.image) := by
  refine ⟨rfl, rfl, rfl, ?_⟩
  intro h
  simp [Store.abandoned, Store.idleWith, h]

end Sys2Proof.Machine
end

