-- ==== Sys2Proof/Laws/Requests.lean ====
section
/-! SUPPORT. What a request command does, said once: the command is its frame, an addressed frame that reaches the part is
dispatched and answered, and no owner touches the queue, the straps, the pins or the monitor. -/

namespace Sys2Proof.Machine

/-! ### The commands -/

/-- Every request command is its frame. -/
theorem exec_command (k : Kind) (l : Line) (bc : Bool) (fields : List Byte) (s : State) :
    exec (k.command l bc fields) s = .next (s.request l bc (k.code :: fields)) := by
  cases k <;> rfl

theorem exec_unknownKind (l : Line) (bc : Bool) (k : Byte) (fields : List Byte) (s : State) :
    exec (.unknownKind l bc k fields) s = .next (s.request l bc (k :: fields)) := rfl

/-- The station address is no broadcast and matches, at a part that can be addressed. -/
theorem frameAddress_matches (s : State) (h : s.straps.address ≠ 0) :
    s.frameAddress false ≠ 0 ∧ s.matches (s.frameAddress false) = true := by
  have hf : s.frameAddress false = s.straps.address.setWidth 8 := by
    simp only [State.frameAddress, Bool.false_eq_true, if_false, if_neg h]
  have hn : s.straps.address.setWidth 8 ≠ (0 : Byte) := by
    intro h0
    apply h
    apply BitVec.eq_of_toNat_eq
    have := congrArg BitVec.toNat h0
    have hl := s.straps.address.isLt
    simp at this ⊢
    omega
  rw [hf]
  exact ⟨hn, by simp only [State.matches, bne_iff_ne.2 h, beq_self_eq_true, Bool.and_self, Bool.or_true]⟩

theorem broadcast_matches (s : State) : s.matches (s.frameAddress true) = true := by
  simp [State.matches, State.frameAddress]

/-- An addressed request that reaches the part: the address character, then the dispatch, then the reply held. -/
theorem request_reached {s : State} {l : Line} {k : Byte} {fields : List Byte} (h : s.Reached l)
    (hf : fields.length ≤ 59) :
    s.request l false (k :: fields) =
      (dispatch l k fields (s.addressed l false)).1.answered l k (dispatch l k fields (s.addressed l false)).2 := by
  obtain ⟨⟨hs, hr⟩, ha⟩ := h
  have hm := (frameAddress_matches s ha).2
  have h60 : ¬(60 < fields.length + 1) := by omega
  simp [State.request, State.frameRest, hs, hr, hm, h60, State.handOver]

/-- A broadcast request that reaches the part: the address character, then its owner or none, then LISTEN. -/
theorem request_broadcast {s : State} {l : Line} {k : Byte} {fields : List Byte} (h : s.Hears l)
    (hf : fields.length ≤ 59) :
    s.request l true (k :: fields) = (dispatchBroadcast l k fields (s.addressed l true)).listening l := by
  obtain ⟨hs, hr⟩ := h
  have hm := broadcast_matches s
  have h60 : ¬(60 < fields.length + 1) := by omega
  simp [State.request, State.frameRest, hs, hr, hm, h60, State.handOver]

/-- Nothing is received before start-up or in REPLY. -/
theorem request_unheard {s : State} {l : Line} {bc : Bool} {body : List Byte} (h : ¬s.Hears l) :
    s.request l bc body = s := by
  unfold State.request
  rw [if_pos]
  by_cases hs : s.started = true
  · simp only [hs, Bool.not_true, Bool.false_or, beq_iff_eq]
    by_contra hr
    exact h ⟨hs, hr⟩
  · simp [hs]

/-! ### What no owner touches -/

/-- The parts of the state that no request reaches. -/
structure SameFrame (s t : State) : Prop where
  monitor : t.monitor = s.monitor
  pins : t.pins = s.pins
  straps : t.straps = s.straps
  freeCount : t.freeCount = s.freeCount
  pending : t.pending = s.pending

theorem SameFrame.self (s : State) : SameFrame s s := ⟨rfl, rfl, rfl, rfl, rfl⟩

theorem SameFrame.trans {s t u : State} (h : SameFrame s t) (h' : SameFrame t u) : SameFrame s u :=
  ⟨h'.monitor.trans h.monitor, h'.pins.trans h.pins, h'.straps.trans h.straps, h'.freeCount.trans h.freeCount,
    h'.pending.trans h.pending⟩

/-- No owner of a request touches the monitor, the pins, the straps or the queue. -/
theorem ownerTakes_frame (k : Kind) (l : Line) (fields : List Byte) (s : State) :
    SameFrame s (ownerTakes k l fields s).1 := by
  cases k <;>
    simp only [ownerTakes, takeReport, takeReadPortals, takeReadZones, takeReadChannels, takeReadClaims, takeReadPart,
      takeClaim, takeRelease, takeWithdraw, takeSetDirection, takeClearFire, takeClearTrip, takeAckEvents,
      takeClearFaults, takeClearCounts, takePlanRead, takeDraftLoad, takeDraftPut, takeAdopt, takeSave] <;>
    (repeat' split) <;> (try unfold State.takeAway) <;> (repeat' split) <;> exact ⟨rfl, rfl, rfl, rfl, rfl⟩

theorem dispatch_frame (l : Line) (k : Byte) (fields : List Byte) (s : State) :
    SameFrame s (dispatch l k fields s).1 := by
  unfold dispatch
  repeat' split
  · exact .self s
  · exact ownerTakes_frame _ _ _ _
  · exact .self s

theorem dispatchBroadcast_frame (l : Line) (k : Byte) (fields : List Byte) (s : State) :
    SameFrame s (dispatchBroadcast l k fields s) := by
  unfold dispatchBroadcast
  repeat' split
  · exact ownerTakes_frame .setDirection _ _ _
  · exact .self s
  · exact ownerTakes_frame .report _ _ _
  · exact .self s

/-- A request touches none of them either. -/
theorem request_frame (s : State) (l : Line) (bc : Bool) (body : List Byte) : SameFrame s (s.request l bc body) := by
  have h0 : SameFrame s (s.addressed l bc) := ⟨rfl, rfl, rfl, rfl, rfl⟩
  have h1 : ∀ (t : State) (x : LinePort), SameFrame t (t.setLine l x) := fun t x => ⟨rfl, rfl, rfl, rfl, rfl⟩
  unfold State.request State.frameRest State.handOver
  repeat' split
  · exact .self s
  · exact h0
  · exact h0.trans (h1 _ _)
  · exact h0
  · exact (h0.trans (dispatchBroadcast_frame ..)).trans (h1 _ _)
  · exact (h0.trans (dispatch_frame ..)).trans (h1 _ _)

end Sys2Proof.Machine
end

