-- ==== Sys2Proof/Laws/Step.lean ====
section
/-! SUPPORT. What a step can do, said once. -/

namespace Sys2Proof.Machine

/-- Every command completes: no meaning faults or refuses. -/
theorem exec_next (c : Instr) (s : State) : ∃ t, exec c s = .next t := by cases c <;> exact ⟨_, rfl⟩

/-- A step that answers a next state: a clock on an empty queue, or the command at the front of the queue. -/
theorem step_cases {s t : State} (h : step s = .next t) :
    (s.pending = [] ∧ t = s.clock)
      ∨ ∃ c rest, s.pending = c :: rest ∧ exec c { s with pending := rest } = .next t := by
  unfold step at h
  split at h
  · rename_i hp
    left
    exact ⟨hp, by simpa using h.symm⟩
  · rename_i c rest hp
    right
    exact ⟨c, rest, hp, h⟩

/-- Every step answers a next state. -/
theorem step_next (s : State) : ∃ t, step s = .next t := by
  unfold step
  split
  · exact ⟨_, rfl⟩
  · exact exec_next _ _

end Sys2Proof.Machine
end

