-- ==== Sys2Proof/WellFormed.lean ====
section
/-! DEFINITION. Which commands can be sent: a request's body fits in a frame, and an UNKNOWN_KIND carries a kind the
table of R193 does not list and is addressed. The meanings are total: they answer ill-formed commands too. -/

namespace Sys2Proof

/-- The request kind codes of R193's table. -/
def listedKinds : List Byte :=
  [0x01, 0x02, 0x03, 0x04, 0x05, 0x06, 0x11, 0x12, 0x13, 0x21, 0x22, 0x23, 0x24, 0x25, 0x26, 0x31, 0x32, 0x33, 0x34, 0x35]

/-- The characters of a request after its kind number at most 59, since LEN is 1 to 60 (R185). -/
def fieldsFit (fields : List Byte) : Bool := fields.length ≤ 59

/-- Whether a command can be sent to the part. -/
def Instr.wf : Instr → Bool
  | .report _ _ f => fieldsFit f
  | .draftLoad _ _ f => fieldsFit f
  | .draftPut _ _ f => fieldsFit f
  | .adopt _ _ f => fieldsFit f
  | .planRead _ _ f => fieldsFit f
  | .setDirection _ _ f => fieldsFit f
  | .readZones _ _ f => fieldsFit f
  | .claim _ _ f => fieldsFit f
  | .release _ _ f => fieldsFit f
  | .withdraw _ _ f => fieldsFit f
  | .readClaims _ _ f => fieldsFit f
  | .clearFire _ _ f => fieldsFit f
  | .ackEvents _ _ f => fieldsFit f
  | .clearTrip _ _ f => fieldsFit f
  | .readChannels _ _ f => fieldsFit f
  | .clearFaults _ _ f => fieldsFit f
  | .unknownKind _ bc k f => fieldsFit f && !bc && !listedKinds.contains k
  | .clearCounts _ _ f => fieldsFit f
  | .readPortals _ _ f => fieldsFit f
  | .readPart _ _ f => fieldsFit f
  | .save _ _ f => fieldsFit f
  | .tick _ => true
  | .holdTimerExpiry _ => true
  | .intervalTimerExpiry _ => true
  | .phinRisingEdge _ _ => true
  | .firstEdgeTimeout _ => true
  | .countOverflowTimeout _ => true
  | .levelPass => true
  | .claimCheck => true
  | .claimExpiry => true
  | .sampleEvent _ _ => true
  | .tripPinChange _ => true
  | .tripAssertionAccepted => true
  | .tripReleaseAccepted => true
  | .periodEnd => true
  | .refresh _ => true
  | .addressCharacter _ _ => true
  | .dataCharacter _ _ => true
  | .framingError _ => true
  | .gapTimeout _ => true
  | .turnaroundSilence _ => true
  | .replyEnd _ => true
  | .pageErased => true
  | .programmingComplete => true
  | .verifyComplete _ _ => true
  | .resetEntry _ => true
  | .resetRelease _ => true
  | .startUp _ _ => true

end Sys2Proof
end

