-- ==== Sys2Proof/Tests/Slice0.lean ====
section
/-! SUPPORT. The model's own tests: the smoke test of WellFormed, the spec's worked examples on single steps, and for every
statement with hypotheses a witness that something meets them (`witness_<statement>`), with the boundary values of each
clause. Expected results are the spec's own figures. -/

namespace Sys2Proof.Tests

open Sys2Proof Sys2Proof.Machine

set_option maxRecDepth 8000

/-! ### Helpers -/

/-- The state a command leaves; the reset state where it stops, which no command does. -/
def aft (o : Host.Outcome State Fault Refusal) : State :=
  match o with
  | .next s => s
  | _ => State.reset

/-- The state after a list of commands, each run by `exec`. -/
def after (s : State) : List Instr → State
  | [] => s
  | c :: rest => after (aft (exec c s)) rest

/-- The reply buffer of a line. -/
def reply (s : State) (l : Line) : List Byte := (s.lines.get l).reply

/-- The plan of the worked examples of chapters 3, 4, 6, 8 and 9: portal A on its curve, zone 0 INTERIOR, zones 1 and 2
THRESHOLD A, channels 4 to 9 bound to zone 1 with fault sense. -/
def tunnelPlan : Plan :=
  { builtInPlan with
    general := { builtInGeneral with initialDirection := .aIn }
    portals := ⟨{ builtInPortal with mode := .stationFallback, holdTime := 10, constS := 5000000, constN := 4 },
      builtInPortal⟩
    curves := ⟨[⟨0, 20⟩, ⟨500, 60⟩, ⟨2000, 220⟩, ⟨4000, 520⟩, ⟨6000, 800⟩, ⟨8000, 1000⟩], builtInCurve⟩
    zones := [{ unusedZone with kind := .interior }, ⟨.threshold, some .a, 1000, 0, 1000, 25, 10, true⟩,
      ⟨.threshold, some .a, 500, 0, 1000, 25, 10, false⟩] ++ List.replicate 9 unusedZone
    channels := List.replicate 4 builtInChannel
      ++ List.replicate 6 ⟨some 1, 0, 50, 1000, .activeHigh, .leading, .full, true⟩
      ++ List.replicate 2 { builtInChannel with zone := some 2 } ++ List.replicate 20 { builtInChannel with zone := none } }

/-- Portal A on 3150 cd/m² by one sample. -/
def litUnit : PortalUnit :=
  { PortalUnit.started tunnelPlan.portals.a with
    window := [⟨3150, .photometer, .good, 0⟩], state := .live, effLum := 3150 }

/-- The state of the worked pass of chapter 4: zone 1 at applied level 430, zone 2 at 180, channel 6 FAULTED, Line A's
FLOOR of 450 on zone 1. -/
def tunnel : State :=
  { State.reset with
    plans := PlanMemory.loaded tunnelPlan .saved
    portals := ⟨litUnit, PortalUnit.started builtInPortal⟩
    engine := { ZoneEngine.started tunnelPlan.general with
      zones := [⟨1000, 1000, false, ZoneFlags.clear⟩, ⟨430, 430, false, ZoneFlags.clear⟩, ⟨180, 180, false, ZoneFlags.clear⟩]
        ++ List.replicate 9 ⟨0, 0, false, ZoneFlags.clear⟩ }
    faults := List.replicate 6 FaultRecord.initial ++ [⟨.faulted, 0, some true⟩] ++ List.replicate 25 FaultRecord.initial
    claims := ⟨[⟨.a, 5, .floor, 450, 2, some 600⟩], 0⟩
    straps := ⟨5, 0⟩
    stage := { Stage.loaded tunnelPlan false with state := .running, firstLevels := true } }

/-- `tunnel` with another record for portal A in the running plan. -/
def withPortalA (r : PortalRecord) : State :=
  { tunnel with plans := { tunnel.plans with running := { tunnelPlan with portals := ⟨r, builtInPortal⟩ } } }

/-- `tunnel` with another portal unit A. -/
def withUnit (u : PortalUnit) : State := tunnel.setPortal .a u

/-- `tunnel` with another Photometer A. -/
def withMeter (m : Photometer) : State := tunnel.setPhotometer .a m

/-- A photometer with the copied constants of the worked example of chapter 2. -/
def meter (st : MeasureState) (window count edges : Nat) : Photometer :=
  { Photometer.off with
    state := st, interval := some 5000, constS := 5000000, constN := 4, edgeWindow := window, captureCount := count,
    edgeCount := edges }

/-- `tunnel` with another port on Line A. -/
def withPort (x : LinePort) : State := tunnel.setLine .a x

/-- A window of seven samples and one of eight. -/
def samples (n : Nat) : List Sample := List.replicate n ⟨3000, .station, .good, 0⟩

/-! ### WellFormed -/

/-- A body of 60 characters after the kind fits no LEN. -/
theorem test_wf_refuses_long_body :
    (Instr.claim .a false (List.replicate 60 0)).wf = false ∧ (Instr.claim .a false (List.replicate 59 0)).wf = true := by
  decide

/-- A listed kind is no UNKNOWN_KIND, nor is a broadcast. -/
theorem test_wf_refuses_listed_and_broadcast_kinds :
    (Instr.unknownKind .a false 0x35 []).wf = false ∧ (Instr.unknownKind .a true 0x90 []).wf = false
      ∧ (Instr.unknownKind .a false 0x90 (List.replicate 60 0)).wf = false ∧ (Instr.unknownKind .a false 0x90 []).wf = true := by
  decide

/-- The kinds of R193's table are those the line port knows. -/
theorem test_listed_kinds : Kind.all.map Kind.code = [0x01, 0x02, 0x03, 0x04, 0x05, 0x06, 0x11, 0x12, 0x13, 0x21, 0x22,
    0x23, 0x24, 0x25, 0x26, 0x31, 0x32, 0x33, 0x34, 0x35] := by
  decide

/-! ### Decoding: no row of the table has bits -/

theorem test_no_word_spells_a_command : decodeTableWord 8 0x05 = none := rfl

/-! ### Worked examples -/

/-- Chapter 1, times 1090 and 1210: the upper of two middle values, GOOD samples alone. -/
theorem test_median_of_worked_window :
    windowMedian [⟨3100, .station, .good, 1000⟩, ⟨3220, .station, .good, 1030⟩, ⟨2980, .station, .good, 1060⟩,
        ⟨3150, .station, .good, 1090⟩] = 3150
      ∧ windowMedian [⟨3100, .station, .good, 1000⟩, ⟨3220, .station, .good, 1030⟩, ⟨2980, .station, .good, 1060⟩,
        ⟨3150, .station, .good, 1090⟩, ⟨3400, .station, .good, 1120⟩, ⟨2700, .station, .degraded, 1150⟩,
        ⟨3600, .station, .good, 1180⟩] = 3220 := by
  decide

/-- Chapter 2: C = 6,349 gives 3150, 6,350 gives 3149, 6,512 gives 3071, 1,800 is clamped. -/
theorem test_conversion :
    (meter .counting 0 0 0).convert 6349 = 3150 ∧ (meter .counting 0 0 0).convert 6350 = 3149
      ∧ (meter .counting 0 0 0).convert 6512 = 3071 ∧ (meter .counting 0 0 0).convert 1800 = 9999 := by
  decide

/-- Chapter 2: the first edge at the 912th capture clock, and the fourth edge after it at C = 6,349. -/
theorem test_edges_of_worked_measurement :
    ((meter .armed 0 0 0).edge 912).1.state = .counting
      ∧ (meter .counting 0 4762 3).edge 1587 = ({ meter .waiting 0 0 0 with sinceEdge := 0 }, some 3150) := by
  decide

/-- Chapter 2: the fourth timeout in a row makes health LOST. -/
theorem test_fourth_timeout_is_lost :
    ({ meter .armed 65535 0 0 with timeouts := 3 } : Photometer).timeOut.health = .lost
      ∧ ({ meter .armed 65535 0 0 with timeouts := 2 } : Photometer).timeOut.health = .ok := by
  decide

/-- Chapter 4: demand 393 at 3150 cd/m², 220 exactly at the breakpoint 2000. -/
theorem test_curve_a :
    curveLookup (tunnelPlan.curves.get .a) 3150 = 393 ∧ curveLookup (tunnelPlan.curves.get .a) 2000 = 220
      ∧ curveLookup (tunnelPlan.curves.get .a) 8000 = 1000 ∧ curveLookup (tunnelPlan.curves.get .a) 0 = 20 := by
  decide

/-- Chapter 4: the worked pass, targets 1000, 472, 197. -/
theorem test_worked_pass_targets :
    (after tunnel [.setDirection .s true [1], .levelPass]).engine.zones.map ZoneLevel.target
      = [1000, 472, 197] ++ List.replicate 9 0 := by
  decide

/-- Chapter 6, pass 1: applied levels 1000, 455, 197. -/
theorem test_worked_pass_applied :
    (after tunnel [.setDirection .s true [1], .levelPass]).engine.zones.map ZoneLevel.applied
      = [1000, 455, 197] ++ List.replicate 9 0 := by
  decide

/-- Chapter 11: READ ZONES after that pass: codes 0x51 0x10, zone 1's entry 0x11 0xD8 0x05 0xC7. -/
theorem test_worked_read_zones :
    (reply (after tunnel [.setDirection .s true [1], .levelPass, .readZones .b false []]) .b).drop 4
      = [0x51, 0x10, 0, 0, 0, 0, 0x03, 0xE8, 0x03, 0xE8, 0x11, 0xD8, 0x05, 0xC7, 0x00, 0xC5, 0x00, 0xC5, 0xAE] := by
  decide

/-- Chapter 6, pass 8: with the fire latch set every zone in use is at 1000 at once. -/
theorem test_fire_is_immediate :
    (after { tunnel with safety := { tunnel.safety with latch := true } } [.levelPass]).engine.zones.map ZoneLevel.applied
      = [1000, 1000, 1000] ++ List.replicate 9 0 := by
  decide

/-- Chapter 4: a CAP of 300 and a floor of 450 meet at 450, both flags set. -/
theorem test_floor_wins_over_cap :
    applySummary ⟨none, 450, 300⟩ 472 = 450 ∧ flagClaimedFloor ⟨none, 450, 300⟩ 472 = true
      ∧ flagClaimedCap ⟨none, 450, 300⟩ 472 = true := by
  decide

/-- Chapter 11: the claim frame's CHECK is 0xDB and its reply's 0xCC. -/
theorem test_claim_on_the_wire :
    frameOf 5 [0x11, 0x05, 0x00, 0x01, 0xC2, 0x00, 0x3C, 0x01, 0x01]
        = [5, 9, 0x11, 0x05, 0x00, 0x01, 0xC2, 0x00, 0x3C, 0x01, 0x01, 0xDB]
      ∧ reply (after { tunnel with claims := ⟨[], 0⟩ } [.claim .a false [5, 0, 1, 0xC2, 0, 0x3C, 1, 1]]) .a
        = [0x45, 4, 0x91, 0, 0x02, 0x58, 0xCC] := by
  decide

/-- The bits of a reply on the wire (chapter 10, R182): 0x45 with mark bit 1, then 0x04 with mark bit 0, from the start
bit to the stop bit, at the first clock of each bit time of 9600 bit/s. -/
theorem test_reply_bits :
    ((List.range 22).map fun i =>
      (withPort { LinePort.initial with state := .reply, reply := [0x45, 0x04], sent := (5000 * i + 2) / 3 }).transmitData .a)
      = [false, true, false, true, false, false, false, true, false, true, true,
        false, false, false, true, false, false, false, false, false, false, true] := by
  decide

/-- Chapter 5: CAP from Line A is BAD_FIELD; a zone of the other portal REFUSED_ZONE. -/
theorem test_claim_refusals :
    (takeClaim .a [0, 1, 1, 0xC2, 0, 60, 1, 1] tunnel).2.result = .badField
      ∧ (takeClaim .b [0, 0, 1, 0xC2, 0, 60, 1, 1] tunnel).2.result = .refusedZone := by
  decide

/-- Chapter 7: the bouncing fire relay, samples 1 to 11 (`true` low): taken at the eleventh. -/
theorem test_bouncing_fire_relay :
    [true, true, false, true, true, true, true, true, true, true].foldl Filter.sample ⟨false, 0⟩ = ⟨false, 7⟩
      ∧ Filter.sample ⟨false, 7⟩ true = ⟨true, 0⟩ := by
  decide

/-- Chapter 7: the eighth low sample sets the latch and the flag. -/
theorem test_fire_latch :
    (after tunnel (List.replicate 8 (.sampleEvent false true))).safety.latch = true
      ∧ (after tunnel (List.replicate 7 (.sampleEvent false true))).safety.latch = false := by
  decide

/-- Chapter 8: the duty table of the first channel, with cutoff 30 and lo 50. -/
theorem test_duty_table :
    [0, 20, 30, 455, 472, 1000].map (dutyOf 8000 ⟨some 1, 30, 50, 1000, .activeHigh, .leading, .full, true⟩)
      = [0, 0, 628, 3858, 3988, 8000] := by
  decide

/-- Chapter 8: level 1 with cutoff 0, the second channel at 150, and the first at the shorter period. -/
theorem test_more_duties :
    dutyOf 8000 ⟨some 1, 0, 50, 1000, .activeHigh, .leading, .full, true⟩ 1 = 408
      ∧ dutyOf 8000 ⟨some 0, 100, 0, 1000, .activeLow, .trailing, .dark, true⟩ 150 = 1200
      ∧ dutyOf 4000 ⟨some 1, 30, 50, 1000, .activeHigh, .leading, .full, true⟩ 455 = 1929 := by
  decide

/-- Chapter 8: the second channel is low for counts 6800 to 7999; in TRIPPED with DARK it is high. -/
theorem test_trailing_active_low_pin :
    let c : ChannelOut := ⟨150, 1200, .activeLow, .trailing, .dark⟩
    let x : Stage := { Stage.loaded builtInPlan false with state := .running }
    { x with counter := 6799 }.pin c = .high ∧ { x with counter := 6800 }.pin c = .low
      ∧ { x with state := .tripped }.pin c = .high := by
  decide

/-- Chapter 8: a trip, its release under auto-resume YES, and the resume at the next refresh. -/
theorem test_trip_and_resume :
    (after tunnel [.tripPinChange false, .tripAssertionAccepted]).stage.state = .tripped
      ∧ (after tunnel [.tripAssertionAccepted, .tripReleaseAccepted]).stage.resume = true
      ∧ (after tunnel [.tripAssertionAccepted, .tripReleaseAccepted, .refresh (BitVec.allOnes 32)]).stage.state
        = .running := by
  decide

/-- Chapter 9, refreshes 1 to 7: the run broken by a deasserted sample, then confirmed. -/
theorem test_worked_fault_run :
    [true, true, false, true, true].foldl (fun f x => f.sample 3 x) FaultRecord.initial = ⟨.suspect, 2, some true⟩
      ∧ FaultRecord.sample 3 true ⟨.suspect, 2, some true⟩ = ⟨.faulted, 0, some true⟩ := by
  decide

/-- Chapter 9: CLEAR FAULTS naming channels 6 and 7 counts one and leaves SUSPECT 1. -/
theorem test_worked_clear_faults :
    (takeClearFaults .s [6, 7] tunnel).2 = ⟨.done, [1]⟩
      ∧ (takeClearFaults .s [6, 7] tunnel).1.faults[6]? = some ⟨.suspect, 1, some true⟩ := by
  decide

/-- Chapter 10: a LEN of 0 rejects the frame; an address character in COLLECT rejects it and starts another. -/
theorem test_rejections :
    ((after tunnel [.addressCharacter .a 5, .dataCharacter .a 0]).lines.get .a).rejected = 1
      ∧ (after tunnel [.addressCharacter .a 5, .dataCharacter .a 3, .addressCharacter .a 5]).lines.get .a
        = { LinePort.initial with state := .collect, frame := [5], silence := some 0, rejected := 1 } := by
  decide

/-- Chapter 10: frames to station 6 and replies pass by in LISTEN; an address character drops a held reply. -/
theorem test_passing_and_dropping :
    (after tunnel [.addressCharacter .a 6, .dataCharacter .a 1, .addressCharacter .a 0x46]).lines.get .a
        = LinePort.initial
      ∧ ((after tunnel [.readPart .a false [], .addressCharacter .a 5]).lines.get .a).dropped = 1 := by
  decide

/-- Chapter 12: READ PART in the state after reset. -/
theorem test_read_part_after_reset :
    reply (after State.reset [.readPart .s false []]) .s
      = [0x41, 20, 0x86, 0, 0, 1] ++ List.replicate 16 0 ++ [0x24] := by
  decide

/-- Chapter 12: a save cut short by a reset leaves no valid image; one run to its end does. -/
theorem test_save_cut_short :
    imageValid (after tunnel [.save .s false [], .pageErased, .pageErased, .resetEntry .external]).store.image = false
      ∧ (after tunnel [.save .s false [], .pageErased, .pageErased, .programmingComplete,
          .verifyComplete false 0x3C5A]).store.result = .saved := by
  decide

/-- Chapter 3: the built-in plan passes every condition, and a LOCAL portal with S = 0 fails with reason 1. -/
theorem test_validation :
    builtInPlan.firstFailure = none ∧ tunnelPlan.firstFailure = none
      ∧ { builtInPlan with portals := ⟨{ builtInPortal with mode := .localOnly }, builtInPortal⟩ }.firstFailure
        = some ⟨1, 0, 1⟩ := by
  decide

/-- Chapter 3: DRAFT PUT of a PWM period count of 1,999 or of a channel block 28 to 35 is refused. -/
theorem test_draft_put_refusals :
    (takeDraftPut .s (0 :: { builtInGeneral with pwmPeriod := 1999 }.bytes) tunnel).2 = .plain .badField
      ∧ (takeDraftPut .s (4 :: 28 :: 8 :: (List.replicate 8 builtInChannel.bytes).flatten) tunnel).2 = .plain .badField
      ∧ (takeDraftPut .s (4 :: 24 :: 8 :: (List.replicate 8 builtInChannel.bytes).flatten) tunnel).2 = .plain .done := by
  decide

/-! ### Witnesses: the hypotheses of every statement that has some are met, each clause at a boundary value -/

theorem witness_CommandsLeaveTheQueue : ∃ t, exec (.tick .a) State.reset = .next t := ⟨_, rfl⟩

/-- The end of a byte in PROGRAMMING. -/
def byteEnd : State :=
  { tunnel with store := { tunnel.store with
      state := .programming, snapshot := some (imageOf pendingMarker tunnelPlan), index := 510, phase := 639 } }

/-- The part one clock before the end of POWER_ON, and one clock before the end of the start-up wait. -/
def heldNext : State :=
  { after State.reset [.resetEntry .powerOn] with
    monitor := { (after State.reset [.resetEntry .powerOn]).monitor with powerTimer := some 31999 } }

def waitNext : State :=
  { after State.reset [.resetEntry .powerOn, .resetRelease .powerOn] with
    monitor := { (after State.reset [.resetEntry .powerOn, .resetRelease .powerOn]).monitor with waitClocks := 65535 }
    safety := { SafetyInputs.held with samplePhase := 15999, qualifying := some 15 } }

/-- One state for each part of the statement: idle, at a byte's end, held with the timer stopped and at its end, waiting
before and at the end of the wait; what the last two clocks make fall due. -/
theorem witness_EmptyQueueStepMovesOnlyTimers :
    (State.reset.started = true ∧ State.reset.pending = [] ∧ State.reset.store.state = .idle)
      ∧ (byteEnd.started = true ∧ byteEnd.pending = [] ∧ byteEnd.store.state = .programming
        ∧ 640 ≤ byteEnd.store.phase + 1 ∧ byteEnd.store.index + 1 < 512)
      ∧ ((after State.reset [.resetEntry .external]).monitor.phase = .held
        ∧ (after State.reset [.resetEntry .external]).monitor.powerTimer = none)
      ∧ (heldNext.monitor.phase = .held ∧ heldNext.pending = [] ∧ heldNext.monitor.powerTimer = some 31999)
      ∧ (waitNext.monitor.phase = .wait ∧ waitNext.pending = [])
      ∧ (aft (step heldNext)).pending = [.resetRelease .powerOn]
      ∧ Instr.startUp 1 0 ∈ (aft (step waitNext)).pending
      ∧ Instr.sampleEvent true true ∈ (aft (step waitNext)).pending
      ∧ Instr.tripAssertionAccepted ∈ (aft (step waitNext)).pending := by
  decide

/-- One clock before every boundary of the timers that count clocks. -/
def dueNext : State :=
  { State.reset with
    portals := ⟨{ PortalUnit.started builtInPortal with tickPhase := 1599999 }, PortalUnit.started builtInPortal⟩
    claims := ⟨[], 1599999⟩
    engine := { ZoneEngine.started builtInGeneral with passTimer := 1, passPhase := 1599999 }
    safety := { SafetyInputs.held with samplePhase := 15999 } }

/-- One clock before the boundaries of the capture clock, the PWM clock, the interval timer, the qualification, the lines
and the store. -/
def dueUnits : State :=
  { tunnel with
    monitor := { tunnel.monitor with divider := 15 }
    photometers := ⟨meter .armed 65535 0 0, { meter .counting 0 65535 1 with interval := some 1, msPhase := 15999 }⟩
    safety := { tunnel.safety with qualifying := some 15 }
    stage := { tunnel.stage with counter := 7999, refreshCount := 9 }
    lines := ⟨{ LinePort.initial with state := .collect, frame := [5], silence := some 54999 },
      { LinePort.initial with state := .turnaround, silence := some 36666 },
      { LinePort.initial with state := .reply, reply := [0], sent := 18333 }⟩
    store := { tunnel.store with state := .verifying, phase := 8831 } }

theorem witness_TimersFallDueAtTheirCounts :
    dueNext.started = true ∧ dueNext.pending = []
      ∧ (aft (step dueNext)).pending = [.sampleEvent true true, .tick .a, .claimCheck, .levelPass]
      ∧ (aft (step State.reset)).pending = [] ∧ dueUnits.started = true ∧ dueUnits.pending = []
      ∧ (∀ i ∈ [Instr.firstEdgeTimeout .a, .countOverflowTimeout .b, .intervalTimerExpiry .b, .tripAssertionAccepted,
          .refresh dueUnits.pins.flt, .gapTimeout .a, .turnaroundSilence .b, .replyEnd .s],
        i ∈ (aft (step dueUnits)).pending) ∧ (∃ t, step dueNext = .next t) :=
  ⟨by decide, by decide, by decide, by decide, by decide, by decide, by decide, _, rfl⟩

theorem witness_MedianOfTheUsedSamples :
    (∃ x ∈ samples 1, x.quality = .good) ∧ (¬∃ x ∈ [(⟨1, .station, .degraded, 0⟩ : Sample)], x.quality = .good)
      ∧ [(5 : Nat)].Perm [5] ∧ [(5 : Nat)].Pairwise (· ≤ ·) ∧ [5].length % 2 = 1
      ∧ [(1 : Nat), 2, 3, 4, 5, 6, 7, 9999].Perm [9999, 7, 6, 5, 4, 3, 2, 1]
      ∧ [(1 : Nat), 2, 3, 4, 5, 6, 7, 9999].Pairwise (· ≤ ·) ∧ [9999, 7, 6, 5, 4, 3, 2, 1].length % 2 = 0
      ∧ ∀ v ∈ [9999, 7, 6, 5, 4, 3, 2, 1], v ≤ 9999 := by
  decide

theorem witness_TickAgesTheWindow : tunnel.started = true := by decide

/-- Every sample at an age one above the sample life at the next tick. -/
def agingUnit : PortalUnit := { litUnit with timeBase := 600 }

theorem witness_AgedOutPortalHoldsItsFigure :
    (withUnit agingUnit).started = true ∧ UnitSound agingUnit ∧ agingUnit.state = .live
      ∧ (∀ x ∈ agingUnit.window,
        10 * (tunnelPlan.portals.get .a).sampleLife < (agingUnit.timeBase + 1 - x.arrival).toNat)
      ∧ 0 < (tunnelPlan.portals.get .a).holdTime
      ∧ (((withPortalA { tunnelPlan.portals.a with holdTime := 0 }).setPortal .a agingUnit).started = true
        ∧ ((withPortalA { tunnelPlan.portals.a with holdTime := 0 }).plans.running.portals.get .a).holdTime = 0) := by
  decide

/-- A unit in HOLD with one tick left. -/
def holdingUnit : PortalUnit := { litUnit with window := [], state := .hold, heldLum := 3150, holdTimer := some 1 }

theorem witness_HoldTimerRunsOutIntoDefault :
    (withUnit holdingUnit).started = true ∧ UnitSound holdingUnit ∧ holdingUnit.holdTimer = some 1 := by
  decide

theorem witness_UsableReportIsEntered :
    tunnel.Reached .a ∧ Line.a.portal = some .a ∧ (tunnel.plans.running.portals.get .a).mode ≠ .localOnly
      ∧ (tunnel.portals.get .a).window.length < 8
      ∧ ((withUnit { litUnit with window := samples 8 }).portals.get .a).window.length = 8
      ∧ (withUnit { litUnit with window := samples 8 }).Reached .a := by
  decide

theorem witness_ReportsThatEnterNothing :
    (withPortalA { tunnelPlan.portals.a with mode := .localOnly }).Reached .a
      ∧ ((withPortalA { tunnelPlan.portals.a with mode := .localOnly }).plans.running.portals.get .a).mode = .localOnly
      ∧ (1 : Byte).toNat ≤ 1 ∧ 2 < (3 : Byte).toNat ∧ (List.replicate 59 (0 : Byte)).length ≠ 3
      ∧ ([] : List Byte).length ≠ 3 := by
  decide

theorem witness_InvalidReportPurgesStationSamples :
    tunnel.Reached .a ∧ UnitSound (tunnel.portals.get .a)
      ∧ litUnit.window.filter (fun x => x.source != .station) ≠ []
      ∧ (UnitSound (PortalUnit.started builtInPortal) ∧ (PortalUnit.started builtInPortal).window = [])
      ∧ (UnitSound { litUnit with window := samples 1 } ∧ (samples 1).filter (fun x => x.source != .station) = []
        ∧ samples 1 ≠ [] ∧ 0 < litUnit.holdTime)
      ∧ UnitSound { litUnit with window := samples 1, holdTime := 0 }
      ∧ (withUnit { litUnit with window := samples 1, holdTime := 0 }).Reached .a := by
  decide

theorem witness_BroadcastReportActsWithoutReply :
    tunnel.Hears .a ∧ tunnel.Hears .s ∧ tunnel.straps.address ≠ 0 ∧ { tunnel with straps := ⟨0, 0⟩ }.Hears .b
      ∧ ∃ t, exec (.report .a false []) tunnel = .next t :=
  ⟨by decide, by decide, by decide, by decide, _, rfl⟩

theorem witness_IntervalExpiryArmsAWaitingPhotometer :
    (withMeter (meter .waiting 0 0 0)).started = true ∧ ((withMeter (meter .waiting 0 0 0)).photometers.get .a).state = .waiting
      ∧ ((withMeter (meter .armed 9 0 0)).photometers.get .a).state = .armed
      ∧ ((withMeter (meter .counting 0 9 1)).photometers.get .a).state = .counting
      ∧ (tunnel.photometers.get .b).state = .off := by
  decide

theorem witness_EdgesStartAndRaiseTheCount :
    (withMeter (meter .armed 65535 0 0)).started = true ∧ 2 ≤ (meter .armed 65535 0 0).sinceEdge + 1
      ∧ (meter .armed 65535 0 0).edgeWindow + 1 = 65536 ∧ (meter .counting 0 65534 2).captureCount + 1 = 65535
      ∧ (meter .counting 0 65534 2).edgeCount + 1 < (meter .counting 0 65534 2).constN
      ∧ (meter .waiting 0 0 0).state = .waiting := by
  decide

/-- A measurement that completes at the next edge, in a part whose draft turns Photometer A off or gives it another mode. -/
def completing (mode : SourceMode) (next : List Instr) : State :=
  { withMeter (meter .counting 0 4762 3) with
    plans := { tunnel.plans with draft := { tunnelPlan with
      portals := ⟨{ tunnelPlan.portals.a with mode := mode }, builtInPortal⟩ } }
    pending := next }

theorem witness_NthEdgeHandsOverTheQuotient :
    ((completing .station [.adopt .s false []]).Reached .s
        ∧ ((completing .station [.adopt .s false []]).planAtArrival .a).portals.a.mode = .station
        ∧ ((completing .station [.phinRisingEdge .b 5, .adopt .s false []]).planAtArrival .a).portals.a.mode = .station
        ∧ ((completing .localOnly [.adopt .s false []]).planAtArrival .a).portals.a.mode = .stationFallback
        ∧ ((completing .station []).planAtArrival .a).portals.a.mode = .stationFallback) ∧
    (withMeter (meter .counting 0 65534 3)).started = true ∧ 2 ≤ (meter .counting 0 65534 3).sinceEdge + 1
      ∧ (meter .counting 0 65534 3).captureCount + 1 = 65535
      ∧ (meter .counting 0 65534 3).constN = (meter .counting 0 65534 3).edgeCount + 1
      ∧ litUnit.window.length ≤ 8 ∧ (samples 8).length = 8
      ∧ (tunnel.plans.running.portals.get .a).mode = .stationFallback ∧ litUnit.mark = none
      ∧ ({ litUnit with mark := some 0 } : PortalUnit).mark ≠ none
      ∧ (tunnel.plans.running.portals.get .b).mode = .station
      ∧ ((withPortalA { tunnelPlan.portals.a with mode := .localOnly }).plans.running.portals.get .a).mode = .localOnly := by
  decide

theorem witness_TimeoutsCountTowardsLost :
    (withMeter (meter .armed 65535 0 0)).started = true ∧ (meter .armed 65535 0 0).timeouts ≤ 4
      ∧ ({ meter .counting 0 65535 1 with timeouts := 4 } : Photometer).timeouts ≤ 4
      ∧ 65536 ≤ (meter .counting 0 65535 1).captureCount + 1 ∧ 2 ≤ (meter .counting 0 65535 1).sinceEdge + 1
      ∧ 65536 < (meter .armed 65535 0 0).edgeWindow + 2 ∧ 2 ≤ (meter .armed 65535 0 0).sinceEdge + 2
      ∧ (meter .waiting 0 0 0).state ≠ .armed ∧ (meter .waiting 0 0 0).state ≠ .counting := by
  decide

/-- A completion and an adoption at one moment (chapter 2, R42; chapter 3, R67). To OFF, completion first: the figure 3150
is recorded and, under the new mode STATION, not entered; adoption first: no figure. From STATION_FALLBACK with a fresh
station to LOCAL: discarded under the old mode if the completion is first, else entered under the new. -/
theorem test_completion_meets_adoption :
    ((after (completing .station [.adopt .s false []]) [.phinRisingEdge .a 1587]).portals.a
        = { litUnit with lastLocal := some 3150 })
      ∧ (after ((completing .localOnly [.adopt .s false []]).setPortal .a { litUnit with mark := some 0 })
          [.phinRisingEdge .a 1587]).portals.a = { litUnit with mark := some 0, lastLocal := some 3150 }
      ∧ (after ((completing .localOnly []).setPortal .a { litUnit with mark := some 0 })
          [.adopt .s false [], .phinRisingEdge .a 1587]).portals.a.window
        = litUnit.window ++ [⟨3150, .photometer, .good, 0⟩]
      ∧ (after (completing .station []) [.adopt .s false [], .phinRisingEdge .a 1587]).portals.a = litUnit := by
  decide

/-- An adoption and an edge at a moment with an arming: after a completed measurement the interval runs out, and the edge
that comes at the moment of the expiry starts the count (R30, arming taken first). -/
theorem test_edge_at_the_arming_is_seen :
    (after (withMeter { meter .waiting 0 0 0 with sinceEdge := 0 })
      [.intervalTimerExpiry .a, .phinRisingEdge .a 0]).photometers.a.state = .counting
      ∧ (after (withMeter { meter .armed 0 0 0 with sinceEdge := 0 }) [.phinRisingEdge .a 1]).photometers.a.state
        = .armed := by
  decide

/-- The sample timer has run for the start-up wait of 65,536 clocks, four periods and 1,536 clocks (R133, R211). -/
theorem test_sample_timer_after_reset : State.reset.safety.samplePhase = 65536 % 16000 := by decide

/-- One state and draft for each clause: OFF and not OFF, each of the three measurement states that act. -/
theorem witness_AdoptionMeetsThePhotometer :
    (completing .station []).Reached .s ∧ (completing .station []).plans.draft.valid = true
      ∧ ((completing .station []).plans.draft.portals.get .a).photometerOff = true
      ∧ 2 ≤ (meter .counting 0 4762 3).sinceEdge + 1587 ∧ (meter .counting 0 4762 3).state = .counting
      ∧ (6349 : Nat) = (meter .counting 0 4762 3).captureCount + 1587
      ∧ (meter .counting 0 4762 3).constN = (meter .counting 0 4762 3).edgeCount + 1 ∧ litUnit.window.length ≤ 8
      ∧ (let s := { completing .stationFallback [] with photometers := ⟨meter .waiting 0 0 0, Photometer.off⟩ }
        s.Reached .s ∧ s.plans.draft.valid = true ∧ (s.plans.draft.portals.get .a).photometerOff = false
          ∧ (s.photometers.get .a).state = .waiting)
      ∧ ((completing .localOnly []).Reached .s ∧ (completing .localOnly []).plans.draft.valid = true
        ∧ ((completing .localOnly []).plans.draft.portals.get .a).photometerOff = false
        ∧ ((completing .localOnly []).photometers.get .a) = meter .counting 0 4762 3) := by
  decide

theorem witness_DraftLoadCopiesTheRunningPlan : tunnel.Reached .s := by decide

/-- Records with every field at an end of its range. -/
def widestGeneral : General :=
  ⟨20, 40000, 64, .closed, 1000, 1000, 9999, 999, 1000, 1000, 1000, 15, false⟩

theorem witness_DraftPutReplacesWholeRecords :
    tunnel.Reached .s ∧ widestGeneral.inRange = true
      ∧ (⟨.localOnly, 9999, 600, 900, 16777215, 8, 60⟩ : PortalRecord).inRange = true
      ∧ curveInRange (List.replicate 12 ⟨9999, 1000⟩) = true ∧ curveInRange (List.replicate 2 ⟨0, 0⟩) = true
      ∧ (⟨.exit, none, 1000, 1000, 0, 1000, 1, true⟩ : ZoneRecord).inRange = true
      ∧ (⟨none, 500, 500, 500, .activeLow, .trailing, .dark, true⟩ : ChannelRecord).inRange = true
      ∧ tunnel.plans.draft.zones.length = 12 ∧ tunnel.plans.draft.channels.length = 32
      ∧ (List.replicate 59 (0 : Byte)).length ≤ 59
      ∧ (putSection tunnelPlan (4 :: 24 :: 8 :: (List.replicate 8 builtInChannel).flatMap ChannelRecord.bytes)).isSome = true
      ∧ putSection tunnelPlan (3 :: 12 :: unusedZone.bytes) = none ∧ putSection tunnelPlan [5] = none := by
  decide

/-- The records of `witness_DraftPutReplacesWholeRecords` meet these hypotheses too; the last clause: 7 characters that are
a channel record. -/
theorem witness_RecordsSurviveTheWire :
    ChannelRecord.parse [255, 0xF1, 0xF4, 1, 0xF4, 1, 0xF4] = some ⟨none, 500, 500, 500, .activeLow, .trailing, .dark, true⟩
      ∧ General.parse widestGeneral.bytes = some widestGeneral := by
  decide

/-- The searches of the example plan and their lengths: two portals with their curve's pairs, twelve zones, 32 channels. -/
theorem witness_ValidationFindsEveryFailure :
    ∃ (portal : Portal → Nat → List (PlanFailure × Bool)) (zones channels : List (PlanFailure × Bool)),
      (∀ x n, portal x n =
        (⟨1, n, 1⟩, decide ((tunnelPlan.portals.get x).mode = .localOnly ∧ (tunnelPlan.portals.get x).constS = 0))
          :: ((tunnelPlan.curves.get x).zip (tunnelPlan.curves.get x).tail).flatMap fun pair =>
            [(⟨2, n, 2⟩, decide (pair.2.lum ≤ pair.1.lum)), (⟨2, n, 3⟩, decide (pair.2.demand < pair.1.demand))])
      ∧ (zones = tunnelPlan.zones.zipIdx.flatMap fun x =>
        [(⟨3, x.2, 4⟩,
            decide ((x.1.kind = .threshold ∨ x.1.kind = .transition ∨ x.1.kind = .exit) ∧ x.1.portal = none)),
          (⟨3, x.2, 5⟩, decide ((x.1.kind = .interior ∨ x.1.kind = .unused) ∧ x.1.portal ≠ none)),
          (⟨3, x.2, 6⟩, decide (x.1.ceiling < x.1.floor))])
      ∧ (channels = tunnelPlan.channels.zipIdx.flatMap fun x =>
        [(⟨4, x.2, 7⟩, decide (x.1.zone.map (fun z => (tunnelPlan.zone z).kind) = some .unused)),
          (⟨4, x.2, 8⟩, decide (x.1.hi ≤ x.1.lo))])
      ∧ (portal .a 0).length = 11 ∧ zones.length = 36 ∧ channels.length = 64 :=
  ⟨_, _, _, fun _ _ => rfl, rfl, rfl, by decide, by decide, by decide⟩

theorem witness_AdoptInstallsExactlyValidDrafts :
    State.reset.Reached .s ∧ tunnel.plans.draft.valid = true
      ∧ ({ builtInPlan with channels := List.replicate 32 { builtInChannel with zone := some 11 } } : Plan).valid = false
      ∧ (tunnelPlan.portals.get .a).photometerOff = false ∧ (tunnelPlan.portals.get .b).photometerOff = true
      ∧ (State.reset.photometers.get .a).state = .off ∧ (meter .armed 0 0 0).state ≠ .off
      ∧ tunnel.plans.running.zones[11]? = some unusedZone ∧ (tunnel.engine.zones[11]?).isSome = true
      ∧ (tunnel.plans.running.channels[31]?).isSome = true ∧ tunnel.faults[31]? = some FaultRecord.initial := by
  decide

theorem witness_CurveLookupFollowsTheSegments :
    (tunnelPlan.curves.get .a).IsChain (fun a b => a.lum < b.lum ∧ a.demand ≤ b.demand)
      ∧ (∃ first rest, [(⟨5, 1⟩ : Breakpoint), ⟨9, 2⟩] = first :: rest ∧ 4 < first.lum)
      ∧ (tunnelPlan.curves.get .a).getLast? = some ⟨8000, 1000⟩
      ∧ tunnelPlan.curves.get .a = [⟨0, 20⟩, ⟨500, 60⟩] ++ ⟨2000, 220⟩ :: ⟨4000, 520⟩ :: [⟨6000, 800⟩, ⟨8000, 1000⟩] :=
  ⟨by decide, ⟨_, _, rfl, by decide⟩, by decide, by decide⟩

theorem witness_BaseTargetsFollowTheTable :
    unusedZone.kind = .unused ∧ ({ tunnel.passView with direction := .closed }).direction = .closed
      ∧ tunnel.passView.direction = .aIn ∧ (tunnelPlan.zone 0).kind = .interior ∧ (tunnelPlan.zone 1).kind = .threshold
      ∧ (tunnelPlan.zone 1).portal = some .a
      ∧ (({ unusedZone with kind := .exit, portal := some .b }) : ZoneRecord).portal = some .b := by
  decide

theorem witness_StagesFollowTheirOrder :
    (tunnelPlan.zone 1).kind ≠ .unused ∧ (tunnelPlan.zone 1).floor ≤ (tunnelPlan.zone 1).ceiling
      ∧ tunnel.passView.plan.channelCount 1 = 6 ∧ faultCount tunnelPlan tunnel.faults 1 = 1
      ∧ summaryOf tunnelPlan tunnel.claims.table 1 = ⟨none, 450, 1000⟩ ∧ tunnel.passView.baseTarget (tunnelPlan.zone 1) = 393 := by
  decide

theorem witness_LevelPassStepsEveryZone :
    tunnel.started = true ∧ tunnel.plans.running.zones[11]? = some unusedZone ∧ (tunnel.engine.zones[11]?).isSome = true
      ∧ (tunnel.stage.chans[31]?).isSome = true ∧ (tunnelPlan.channels[31]?).map ChannelRecord.zone = some none
      ∧ (tunnelPlan.channels[9]?).map ChannelRecord.zone = some (some 1) := by
  decide

theorem witness_RampsAreBoundedAndFireIsImmediate :
    tunnel.started = true ∧ (∃ t, exec .levelPass tunnel = .next t ∧ (t.engine.zones[1]?).isSome = true)
      ∧ tunnel.engine.zones[1]? = some ⟨430, 430, false, ZoneFlags.clear⟩ ∧ tunnel.safety.latch = false
      ∧ tunnel.safety.backup.asserted = false
      ∧ { tunnel with safety := { tunnel.safety with latch := true } }.started = true
      ∧ State.reset.engine.zones[11]? = some ⟨0, 0, true, ZoneFlags.clear⟩
      ∧ State.reset.plans.running.zones[11]? = some unusedZone :=
  ⟨by decide, ⟨_, rfl, by decide⟩, by decide, by decide, by decide, by decide, by decide, by decide⟩

theorem witness_SetDirectionActsFromLineS :
    tunnel.Reached .s ∧ tunnel.Reached .a ∧ 3 < (4 : Byte).toNat ∧ [(1 : Byte), 0].length ≠ 1 ∧ ([] : List Byte).length ≠ 1 ∧ { tunnel with straps := ⟨0, 0⟩ }.Hears .s
      ∧ { tunnel with straps := ⟨0, 0⟩ }.Hears .b := by
  decide

/-- A table of sixteen claims, eight of Line S and eight of Line B. -/
def fullTable : List Claim :=
  (List.range 8).map (fun i => ⟨.s, i, .cap, 1000, 1, none⟩) ++ (List.range 8).map fun i => ⟨.b, i, .floor, 0, 1, some 36000⟩

theorem witness_ClaimIsRenewedOrAppended :
    tunnel.Reached .a ∧ ClaimsSound tunnel ∧ ClaimsSound (tunnel.setTable fullTable) ∧ fullTable.length = 16
      ∧ parseClaim .a [5, 0, 1, 0xC2, 0, 60, 1, 1] = some ⟨.a, 5, .floor, 450, 2, some 600⟩
      ∧ zonesPermitted tunnelPlan ⟨.a, 5, .floor, 450, 2, some 600⟩ = true
      ∧ (Line.a, 5) ∈ tunnel.claims.table.map Claim.key ∧ (Line.a, 5) ∉ fullTable.map Claim.key
      ∧ (fullTable.drop 1).length = 15 ∧ ClaimsSound (tunnel.setTable (fullTable.drop 1)) := by
  decide

theorem witness_ClaimChecksAndClamps :
    (parseClaim .s (7 :: 2 :: 0xFF :: 0xFF :: 0xFF :: 0xFF :: 12 :: (List.range 12).map u8)).isSome = true
      ∧ parseClaim .a [8, 0, 0, 0, 0, 1, 1, 0] = none ∧ parseClaim .a [0, 0, 0, 0, 0, 0, 1, 0] = none
      ∧ tunnel.Reached .b ∧ (parseClaim .b [0, 0, 0, 0, 0, 1, 1, 1]).isSome = true
      ∧ (tunnelPlan.zone 1).portal ≠ some .b ∧ (tunnelPlan.zone 1).kind ≠ .interior := by
  decide

theorem witness_ReleaseAndWithdrawRemoveClaims :
    tunnel.Reached .a ∧ tunnel.Reached .s ∧ (Line.a, (5 : Byte).toNat) ∈ tunnel.claims.table.map Claim.key
      ∧ (Line.a, (7 : Byte).toNat) ∉ tunnel.claims.table.map Claim.key ∧ (255 : Byte).toNat = 255
      ∧ 8 ≤ (8 : Byte).toNat ∧ (254 : Byte).toNat ≤ 254 ∧ 3 ≤ (3 : Byte).toNat ∧ [(0 : Byte), 0].length ≠ 1
      ∧ [(0 : Byte)].length ≠ 2 := by
  decide

theorem witness_ClaimChecksCountDownAndExpire :
    tunnel.started = true ∧ (∃ c ∈ tunnel.claims.table, c.remaining = some 600)
      ∧ (∀ c ∈ tunnel.claims.table, ∀ t ∈ c.remaining, 600 ≤ t)
      ∧ (∃ c ∈ [(⟨.a, 0, .floor, 1, 1, some 1⟩ : Claim)], c.remaining = some 1)
      ∧ ∀ c ∈ (tunnel.setTable (fullTable.take 8)).claims.table, c.remaining = none := by
  decide

theorem witness_SummaryTakesHighestAndLowest :
    Claim.eligible tunnelPlan 1 ⟨.a, 5, .floor, 450, 2, some 600⟩ = true
      ∧ Claim.eligible tunnelPlan 0 ⟨.s, 0, .cap, 300, 1, none⟩ = true
      ∧ (summaryOf tunnelPlan [⟨.s, 0, .force, 150, 2, none⟩] 1).force = some 150 := by
  decide

theorem witness_EighthDifferingSampleTakesTheChange :
    (true ≠ (⟨false, 6⟩ : Filter).asserted ∧ (⟨false, 6⟩ : Filter).run ≤ 6) ∧ (⟨false, 7⟩ : Filter).run = 7
      ∧ (false = (⟨false, 7⟩ : Filter).asserted) ∧ (⟨true, 0⟩ : Filter).run = 0 ∧ tunnel.watching = true
      ∧ (after tunnel [.resetEntry .external]).watching = false := by
  decide

theorem witness_TripChangesReachTheStage :
    tunnel.watching = true ∧ tunnel.safety.trip = false ∧ (after tunnel [.tripAssertionAccepted]).safety.trip = true
      ∧ (after tunnel [.tripAssertionAccepted]).watching = true
      ∧ (after tunnel [.resetEntry .external, .resetRelease .external]).watching = true
      ∧ (after tunnel [.resetEntry .external, .resetRelease .external]).stage.planLoaded = false := by
  decide

theorem witness_SupervisorClears :
    tunnel.Reached .s ∧ tunnel.safety.fire.asserted = false
      ∧ (after tunnel (List.replicate 8 (.sampleEvent false true))).safety.fire.asserted = true
      ∧ (after tunnel [.tripAssertionAccepted]).safety.trip = true ∧ (after tunnel [.tripAssertionAccepted]).Reached .s
      ∧ (after tunnel [.tripAssertionAccepted, .tripReleaseAccepted]).stage.state = .tripped
      ∧ tunnel.stage.state ≠ .tripped ∧ (∀ c ∈ [(2 : Byte), 1, 0], c.toNat ≤ 2) ∧ [(2 : Byte), 1, 0].Nodup
      ∧ (∃ c ∈ [(3 : Byte)], 2 < c.toNat) ∧ ¬[(0 : Byte), 0].Nodup := by
  decide

theorem witness_RefreshTakesThePlan :
    tunnel.started = true ∧ (tunnel.plans.running.channels[31]?).isSome = true ∧ (tunnel.stage.chans[31]?).isSome = true
      ∧ (tunnel.faults[31]?).isSome = true ∧ tunnel.stage.state = .running ∧ State.reset.stage.state = .released
      ∧ (after tunnel [.tripAssertionAccepted]).stage.state = .tripped
      ∧ (after tunnel [.tripAssertionAccepted, .tripReleaseAccepted]).stage.resume = true
      ∧ tunnel.stage.refreshCount + 1 < tunnel.stage.repetition
      ∧ (after tunnel (List.replicate 9 .periodEnd)).stage.refreshCount + 1 = 10 := by
  decide

theorem witness_DutyFollowsTheFormula :
    builtInChannel.lo ≤ builtInChannel.hi ∧ builtInChannel.hi = 1000 ∧ builtInChannel.cutoff ≤ 500
      ∧ 499 < (⟨none, 500, 500, 500, .activeLow, .trailing, .dark, true⟩ : ChannelRecord).cutoff := by
  decide

theorem witness_DimPinsFollowTheStage :
    (tunnel.stage.chans[31]?).isSome = true ∧ State.reset.stage.state = .released ∧ tunnel.stage.state = .running
      ∧ (after tunnel [.tripAssertionAccepted]).stage.state = .tripped
      ∧ (∀ c ∈ (after tunnel [.levelPass, .refresh 0]).stage.chans, c.duty ≤ 8000)
      ∧ (∃ c ∈ (after tunnel [.levelPass, .refresh 0]).stage.chans, c.duty = 8000) := by
  decide

theorem witness_SamplesConfirmFaults :
    (1 : Nat) ≤ 1 ∧ FaultRecord.initial.state = .clear ∧ (⟨.suspect, 14, some true⟩ : FaultRecord).count + 1 = 15
      ∧ (∃ t, exec (.refresh 0) (after tunnel [.levelPass]) = .next t ∧ t.stage.state = .running
        ∧ (t.stage.chans[6]?).map ChannelOut.duty = some 3858)
      ∧ (tunnelPlan.channels[6]?).map ChannelRecord.sense = some true
      ∧ tunnel.faults[6]? = some ⟨.faulted, 0, some true⟩ :=
  ⟨by decide, by decide, by decide, ⟨_, rfl, by decide, by decide⟩, by decide, by decide⟩

theorem witness_ClearFaultsJudgesByTheLastSample :
    tunnel.Reached .s ∧ tunnel.faults.length = 32 ∧ ((List.range 32).map u8).Nodup
      ∧ (∀ c ∈ (List.range 32).map u8, c.toNat ≤ 31) ∧ ((List.range 32).map u8).length = 32
      ∧ tunnel.faults[6]? = some ⟨.faulted, 0, some true⟩ ∧ (∃ c ∈ [(32 : Byte)], 31 < c.toNat)
      ∧ ((tunnel.faults.set 31 ⟨.faulted, 0, some false⟩)[31]?) = some ⟨.faulted, 0, some false⟩ := by
  decide

theorem witness_CharactersMakeTheRequest :
    tunnel.started = true ∧ { tunnel with straps := ⟨0, 0⟩ }.started = true ∧ (List.replicate 59 (0 : Byte)).length ≤ 59 := by
  decide

theorem witness_AddressCharactersStartFrames :
    tunnel.started = true ∧ (5 : Byte).toNat = tunnel.straps.address.toNat ∧ tunnel.straps.address ≠ 0
      ∧ (withPort { LinePort.initial with state := .reply }).started = true
      ∧ ¬((0x45 : Byte) = 0 ∨ (tunnel.straps.address ≠ 0 ∧ (0x45 : Byte).toNat = tunnel.straps.address.toNat)) := by
  decide

/-- A port that has collected `frame`. -/
def collecting (frame : List Byte) : LinePort := { LinePort.initial with state := .collect, frame := frame, silence := some 0 }

theorem witness_DataCharactersBuildFrames :
    (withPort (collecting [5])).started = true ∧ 60 < (61 : Byte).toNat ∧ 1 ≤ (1 : Byte).toNat ∧ (60 : Byte).toNat ≤ 60
      ∧ (collecting [5, 1]).frame = 5 :: 1 :: [] ∧ ([] : List Byte).length < (1 : Byte).toNat
      ∧ [(6 : Byte)].length = (1 : Byte).toNat
      ∧ (([(5 : Byte), 1, 6] ++ [0]).map BitVec.toNat).sum % 256 ≠ 0
      ∧ (([(5 : Byte), 1, 6] ++ [0xF4]).map BitVec.toNat).sum % 256 = 0
      ∧ ((withPort (collecting [5, 1, 6])).lines.get .a).state = .collect
      ∧ (([(0 : Byte), 4, 1, 0, 0, 2] ++ [0xF9]).map BitVec.toNat).sum % 256 = 0
      ∧ [(0 : Byte), 0, 2].length + 1 = (4 : Byte).toNat
      ∧ (after (withPort (collecting [0, 4, 1, 0, 0, 2])) [.dataCharacter .a 0xF9]).lines.get .a
        = LinePort.initial
      ∧ (⟨.done, List.replicate 58 0⟩ : Answer).payload.length ≤ 58 := by
  decide

theorem witness_LineTimersAndErrors :
    (withPort (collecting [5])).started = true ∧ ((withPort (collecting [5])).lines.get .a).state = .collect
      ∧ ((withPort { LinePort.initial with state := .turnaround, silence := some 0 }).lines.get .a).state = .turnaround
      ∧ ((withPort { LinePort.initial with state := .reply }).lines.get .a).state = .reply
      ∧ (tunnel.lines.get .a).state = .listen
      ∧ (let s := withPort { LinePort.initial with state := .reply, reply := [0x45, 0x04], sent := 18334 }
        (s.lines.get .a).state = .reply ∧ (s.lines.get .a).reply[1]? = some 0x04
          ∧ (11 * 1 + 0) * 16000000 ≤ (s.lines.get .a).sent * bitRate s.straps.rate
          ∧ (s.lines.get .a).sent * bitRate s.straps.rate < (11 * 1 + 0 + 1) * 16000000
          ∧ s.transmitData .a = false) := by
  decide

theorem witness_RefusedRequestsChangeNothing :
    tunnel.Reached .s ∧ tunnel.Reached .a ∧ (∀ x ∈ Kind.all, x.code ≠ 0x90) ∧ tunnel.Hears .a
      ∧ [(0 : Byte)] ≠ [] ∧ Kind.save ∈ Kind.all ∧ { tunnel with straps := ⟨0, 0⟩ }.Hears .b := by
  decide

theorem witness_ReadsReportAndChangeNothing :
    tunnel.Reached .a ∧ tunnel.Reached .s ∧ (24 : Byte).toNat + (8 : Byte).toNat ≤ 32 ∧ (15 : Byte).toNat ≤ 15
      ∧ 16 ≤ (16 : Byte).toNat ∧ tunnelPlan.zones.length = 12 ∧ tunnelPlan.channels.length = 32
      ∧ tunnel.engine.zones.length = 12 ∧ (tunnelPlan.zones[(11 : Byte).toNat]?).isSome = true
      ∧ (tunnelPlan.channels[(31 : Byte).toNat]?).isSome = true := by
  decide

theorem witness_SaveStepsRunInTurn :
    tunnel.Reached .s ∧ tunnel.store.state = .idle ∧ (after tunnel [.save .s false []]).store.state = .erasing
      ∧ (after tunnel [.save .s false []]).store.index = 0
      ∧ (after tunnel [.save .s false [], .pageErased]).store.index ≠ 0
      ∧ (after tunnel [.save .s false [], .pageErased, .pageErased]).store.state = .programming
      ∧ (after tunnel [.save .s false [], .pageErased, .pageErased]).store.snapshot
        = some (imageOf pendingMarker tunnelPlan)
      ∧ (after tunnel [.save .s false [], .pageErased, .pageErased, .programmingComplete]).store.state = .verifying := by
  decide

/-- The run of the statement answers a next state, which runs the saved plan. -/
theorem witness_SavedPlanReturnsAtStartUp :
    tunnel.plans.running.inRange = true ∧ tunnel.plans.running.valid = true ∧ tunnel.Reached .s
      ∧ tunnel.store.state = .idle ∧ tunnel.monitor.anyStands = false
      ∧ (after tunnel [.save .s false [], .pageErased, .pageErased, .programmingComplete, .verifyComplete false 0x3C5A,
          .resetEntry .external, .resetRelease .external, .startUp 31 3]).plans = PlanMemory.loaded tunnelPlan .saved := by
  decide

/-- The part in its start-up wait with the example plan saved. -/
def savedWait : State :=
  after { tunnel with store := Store.idleWith (imageOf committedMarker tunnelPlan) }
    [.resetEntry .external, .resetRelease .external]

theorem witness_ResetHoldsReleasesAndStarts :
    SaveUncommitted (after tunnel [.save .s false [], .pageErased])
      ∧ (after tunnel [.save .s false [], .pageErased]).store.state ≠ .idle ∧ tunnel.store.state = .idle
      ∧ (after tunnel [.resetEntry .external]).monitor.phase = .held
      ∧ (after tunnel [.resetEntry .external]).monitor.stands .external = true
      ∧ (after tunnel [.resetEntry .external]).monitor.stands .powerOn = false
      ∧ (after tunnel [.resetEntry .external, .resetEntry .supplyLow]).monitor.stands .supplyLow = true
      ∧ (after tunnel [.resetEntry .external, .resetRelease .external]).monitor.phase = .wait
      ∧ imageValid (after tunnel [.resetEntry .external, .resetRelease .external]).store.image = false
      ∧ (storedPlan savedWait.store.image = some tunnelPlan ∧ savedWait.monitor.phase = .wait)
      ∧ (tunnel.monitor.phase ≠ .wait ∧ tunnel.monitor.phase ≠ .held) := by
  decide

/-- The invariants hold of the example state, in which claims are held and a fault is latched. -/
theorem witness_EveryStepKeepsPlansSound : PlansSound tunnel ∧ ∃ t, step tunnel = .next t := ⟨by decide, _, rfl⟩

theorem witness_EveryStepKeepsPortalsSound : PortalsSound tunnel ∧ ∃ t, step tunnel = .next t := ⟨by decide, _, rfl⟩

theorem witness_EveryStepKeepsLuminancesBounded :
    PlansSound tunnel ∧ LuminancesBounded tunnel ∧ ∃ t, step tunnel = .next t :=
  ⟨by decide, by decide, _, rfl⟩

theorem witness_EveryStepKeepsClaimsSound : ClaimsSound tunnel ∧ ∃ t, step tunnel = .next t := ⟨by decide, _, rfl⟩

theorem witness_EveryStepKeepsLevelsSound :
    PlansSound tunnel ∧ ClaimsSound tunnel ∧ LevelsSound tunnel ∧ ∃ t, step tunnel = .next t :=
  ⟨by decide, by decide, by decide, _, rfl⟩

theorem witness_EveryStepKeepsTheOutputsSafe :
    LatchSound tunnel ∧ DutiesSound tunnel ∧ TripSound (after tunnel [.tripAssertionAccepted]) ∧ FaultsSound tunnel
      ∧ ∃ t, step tunnel = .next t :=
  ⟨by decide, by decide, by decide, by decide, _, rfl⟩

theorem witness_EveryStepKeepsThePortsSound :
    PortsSound (withPort (collecting [5, 1, 6])) ∧ ListenOnlySilent { tunnel with straps := ⟨0, 0⟩ }
      ∧ ∃ t, step tunnel = .next t :=
  ⟨by decide, by decide, _, rfl⟩

theorem witness_EveryStepKeepsSavesUncommitted :
    SaveUncommitted (after tunnel [.save .s false [], .pageErased]) ∧ ∃ t, step tunnel = .next t := ⟨by decide, _, rfl⟩

end Sys2Proof.Tests
end

section
/-! PROOFS. The used samples and their median (R17, R18). -/

namespace Sys2Proof.Machine

/-! ### The choice of the used samples (R17) -/

/-- A window with a GOOD sample uses its GOOD samples. -/
theorem usedSamples_of_good {w : List Sample} (h : ∃ x ∈ w, x.quality = .good) :
    usedSamples w = w.filter fun x => x.quality == .good :=
  if_pos (by simpa using h)

/-- A window without a GOOD sample uses its DEGRADED samples. -/
theorem usedSamples_of_not_good {w : List Sample} (h : ¬∃ x ∈ w, x.quality = .good) :
    usedSamples w = w.filter fun x => x.quality == .degraded :=
  if_neg (by simpa using h)

/-- With no GOOD sample in the window every sample of it is DEGRADED, so either choice keeps a sample. -/
theorem usedSamples_ne_nil {w : List Sample} (hw : w ≠ []) : usedSamples w ≠ [] := by
  by_cases hg : ∃ x ∈ w, x.quality = .good
  · obtain ⟨x, hx, hq⟩ := hg
    rw [usedSamples_of_good ⟨x, hx, hq⟩]
    exact List.ne_nil_of_mem (List.mem_filter.2 ⟨hx, by simp [hq]⟩)
  · obtain ⟨x, hx⟩ := List.exists_mem_of_ne_nil w hw
    have hq : x.quality = .degraded := by
      cases h : x.quality with
      | good => exact absurd ⟨x, hx, h⟩ hg
      | degraded => rfl
    rw [usedSamples_of_not_good hg]
    exact List.ne_nil_of_mem (List.mem_filter.2 ⟨hx, by simp [hq]⟩)

/-! ### The median (R18) -/

/-- The median of some value is one of them. -/
theorem upperMedian_mem_of_ne_nil {values : List Nat} (h : values ≠ []) : upperMedian values ∈ values :=
  (upperMedian_mem values).resolve_right fun hnil => h hnil.1

/-- Values have one ascending arrangement, so the median stands at index `k / 2` of any. -/
theorem getElem?_half_of_ascending {values sorted : List Nat} (hne : values ≠ []) (hp : sorted.Perm values)
    (hs : sorted.Pairwise (· ≤ ·)) : sorted[values.length / 2]? = some (upperMedian values) := by
  have hsorted : sorted = values.insertionSort (· ≤ ·) :=
    (hp.trans (List.perm_insertionSort _ values).symm).eq_of_pairwise' hs (List.pairwise_insertionSort _ values)
  have hlt : values.length / 2 < sorted.length := by
    have hpos := List.length_pos_of_ne_nil hne
    rw [hp.length_eq]
    omega
  unfold upperMedian
  rw [← hsorted, List.getD_eq_getElem _ _ hlt, List.getElem?_eq_getElem hlt]

/-- Settles O5: the choice of R17 by the two cases of the window, and the median through the one ascending arrangement,
where both positions of R18, counted from 1, are index `k / 2` counted from 0. -/
theorem medianOfTheUsedSamples : Obligations.MedianOfTheUsedSamples := by
  unfold Obligations.MedianOfTheUsedSamples
  refine ⟨fun w => ⟨usedSamples_of_good, usedSamples_of_not_good, usedSamples_ne_nil, rfl⟩,
    fun values sorted hne hp hs => ?_⟩
  have hmid := getElem?_half_of_ascending hne hp hs
  have hmem := upperMedian_mem_of_ne_nil hne
  refine ⟨fun hodd => ?_, fun _ => hmid, hmem, fun hle => hle _ hmem⟩
  have hindex : (values.length + 1) / 2 - 1 = values.length / 2 := by omega
  rw [hindex]
  exact hmid

end Sys2Proof.Machine
end

section
/-! PROOFS. What a sample does to a fault record, and the sampling of a refresh (R169, R171). -/

namespace Sys2Proof.Machine

/-! ### One sample, by the row of R171's table -/

theorem FaultRecord.sample_clear_deasserted {f : FaultRecord} (k : Nat) (h : f.state = .clear) :
    f.sample k false = { f with last := some false } := by
  simp [FaultRecord.sample, h]

theorem FaultRecord.sample_clear_asserted {f : FaultRecord} (k : Nat) (h : f.state = .clear) :
    f.sample k true = if k ≤ 1 then ⟨.faulted, 0, some true⟩ else ⟨.suspect, 1, some true⟩ := by
  simp [FaultRecord.sample, h]

theorem FaultRecord.sample_suspect_deasserted {f : FaultRecord} (k : Nat) (h : f.state = .suspect) :
    f.sample k false = ⟨.clear, 0, some false⟩ := by
  simp [FaultRecord.sample, h]

theorem FaultRecord.sample_suspect_asserted {f : FaultRecord} (k : Nat) (h : f.state = .suspect) :
    f.sample k true =
      if k ≤ f.count + 1 then ⟨.faulted, 0, some true⟩ else ⟨.suspect, f.count + 1, some true⟩ := by
  simp [FaultRecord.sample, h]

theorem FaultRecord.sample_faulted {f : FaultRecord} (k : Nat) (x : Bool) (h : f.state = .faulted) :
    f.sample k x = { f with last := some x } := by
  simp [FaultRecord.sample, h]

/-! ### A run of asserted samples -/

/-- Short of `k` asserted samples the record counts the run: the first makes it SUSPECT, each later one adds one. -/
theorem FaultRecord.iterate_sample_suspect {k : Nat} {f : FaultRecord} (h : f.state = .clear) {j : Nat} (hj : 1 ≤ j)
    (hjk : j < k) : (FaultRecord.sample k true)^[j] f = ⟨.suspect, j, some true⟩ := by
  induction j, hj using Nat.le_induction with
  | base => rw [Function.iterate_one, sample_clear_asserted k h, if_neg (by omega)]
  | succ j _ ih =>
    rw [Function.iterate_succ_apply', ih (by omega), sample_suspect_asserted k rfl, if_neg (by simpa using hjk)]

/-- The `k`-th asserted sample confirms the fault: it is the first of the run for `k = 1`, and meets a SUSPECT record
with count `k - 1` otherwise. -/
theorem FaultRecord.iterate_sample_faulted {k : Nat} {f : FaultRecord} (h : f.state = .clear) (hk : 1 ≤ k) :
    (FaultRecord.sample k true)^[k] f = ⟨.faulted, 0, some true⟩ := by
  obtain ⟨m, rfl⟩ : ∃ m, k = m + 1 := ⟨k - 1, by omega⟩
  rw [Function.iterate_succ_apply']
  rcases Nat.eq_zero_or_pos m with rfl | hm
  · exact (sample_clear_asserted _ h).trans (if_pos le_rfl)
  · rw [iterate_sample_suspect h hm (Nat.lt_succ_self m), sample_suspect_asserted _ rfl, if_pos le_rfl]

/-! ### The sampling of a refresh (R169) -/

theorem isSampled_iff {state : StageState} {r : ChannelRecord} {o : ChannelOut} :
    isSampled state r o = true ↔ state = .running ∧ r.zone ≠ none ∧ r.sense = true ∧ 0 < o.duty := by
  simp [isSampled, and_assoc, Option.isSome_iff_ne_none]

/-- Each channel's record is sampled on its own, with the level of its own pin. -/
theorem sampleFaults_getElem? {records : List ChannelRecord} {chans : List ChannelOut} {faults : List FaultRecord}
    {c : Nat} {r : ChannelRecord} {o : ChannelOut} {f : FaultRecord} (k : Nat) (state : StageState) (flt : BitVec 32)
    (hr : records[c]? = some r) (ho : chans[c]? = some o) (hf : faults[c]? = some f) :
    (sampleFaults k state flt records chans faults)[c]? =
      some (if isSampled state r o then f.sample k (!flt.getLsbD c) else f) := by
  have hzip : (records.zip chans).zipIdx[c]? = some ((r, o), c) := by
    have hpair : (records.zip chans)[c]? = some (r, o) := List.getElem?_zip_eq_some.2 ⟨hr, ho⟩
    simp [List.getElem?_zipIdx, hpair]
  simp [sampleFaults, List.getElem?_zipWith, hzip, hf]

theorem exec_refresh_of_started {s : State} (flt : BitVec 32) (h : s.started = true) :
    exec (.refresh flt) s = .next (s.refreshed flt) :=
  congrArg Host.Outcome.next (if_pos h)

/-- The fault records after a refresh, by the stage as the refresh settles it. -/
theorem State.refreshed_faults (s : State) (flt : BitVec 32) :
    (s.refreshed flt).faults = sampleFaults s.plans.running.general.confirmCount (s.refreshed flt).stage.state flt
      s.plans.running.channels (s.refreshed flt).stage.chans s.faults := rfl

/-- Settles O41: the rows of R171's table, the run of asserted samples by induction on its length, and the refresh through
the record of the one channel. -/
theorem samplesConfirmFaults : Obligations.SamplesConfirmFaults := by
  unfold Obligations.SamplesConfirmFaults
  intro k f hk
  refine ⟨FaultRecord.sample_clear_deasserted k, fun h hk1 => ?firstConfirms, fun h hk1 => ?firstSuspects,
    FaultRecord.sample_suspect_deasserted k, fun h hle => ?runConfirms, fun h hlt => ?runGoesOn,
    FaultRecord.sample_faulted k, fun j h => FaultRecord.iterate_sample_suspect h,
    fun h => FaultRecord.iterate_sample_faulted h hk, ?refresh⟩
  case firstConfirms => rw [FaultRecord.sample_clear_asserted k h, if_pos hk1.le]
  case firstSuspects => rw [FaultRecord.sample_clear_asserted k h, if_neg (by omega)]
  case runConfirms => rw [FaultRecord.sample_suspect_asserted k h, if_pos hle]
  case runGoesOn => rw [FaultRecord.sample_suspect_asserted k h, if_neg (by omega)]
  case refresh =>
    intro s t flt c r o hstarted hexec hr ho hf hrun hzone hsense hduty
    obtain rfl : s.refreshed flt = t := by
      simpa only [exec_refresh_of_started flt hstarted, Host.Outcome.next.injEq] using hexec
    rw [State.refreshed_faults, sampleFaults_getElem? _ _ flt hr ho hf,
      if_pos (isSampled_iff.2 ⟨hrun, hzone, hsense, hduty⟩)]

end Sys2Proof.Machine
end

section
/-! PROOFS. What a step can do, said once: a chain of single effects on single blocks. An invariant is kept by every step
when each effect keeps it (`step_keeps`). -/

namespace Sys2Proof.Machine

/-! ### The moves of a line port -/

/-- The single moves of a line port; `isMatch` says which address characters are a start for the part. -/
inductive PortMove (isMatch : Byte → Bool) (x : LinePort) : LinePort → Prop
  | address (v : Byte) : PortMove isMatch x (x.address (isMatch v) v)
  | reject : PortMove isMatch x x.reject
  | keep (v : Byte) (collects : x.state = .collect) (lenFits : x.frame.length = 1 → 1 ≤ v.toNat ∧ v.toNat ≤ 60)
      (noCheck : ∀ a len rest, x.frame = a :: len :: rest → rest.length ≠ len.toNat) :
      PortMove isMatch x { x with frame := x.frame ++ [v], silence := some 0 }
  | restartSilence (waits : x.state = .turnaround) : PortMove isMatch x { x with silence := some 0 }
  | afterBroadcast : PortMove isMatch x x.afterBroadcast
  | afterRequest (a : Byte) (reply : List Byte) (collects : x.state = .collect) (startsWith : x.frame.head? = some a)
      (isAddressed : a ≠ 0) : PortMove isMatch x (x.afterRequest reply)
  | beginReply : PortMove isMatch x x.beginReply
  | endReply : PortMove isMatch x x.endReply

/-! ### The effects -/

/-- The single effects of which every step is made. -/
inductive Effect (s : State) : State → Prop
  | queue (rest : List Instr) : Effect s { s with pending := rest }
  | clock : Effect s s.clock
  | pins (x : Pins) : Effect s { s with pins := x }
  | monitor (m : Monitor) : Effect s { s with monitor := m }
  | tick (p : Portal) : Effect s (s.tickPortal p)
  | report (p : Portal) (mode : SourceMode) (fields : List Byte) :
      Effect s (s.setPortal p ((s.portals.get p).report mode fields).1)
  | localSample (p : Portal) (mode : SourceMode) (lum : Nat) (bounded : lum ≤ 9999) :
      Effect s (s.setPortal p ((s.portals.get p).localSample mode lum))
  | photometer (p : Portal) (m : Photometer) : Effect s (s.setPhotometer p m)
  | draftLoad : Effect s { s with plans := { s.plans with draft := s.plans.running } }
  | draftPut (fields : List Byte) (d : Plan) (put : putSection s.plans.draft fields = some d) :
      Effect s { s with plans := { s.plans with draft := d } }
  | adopt (valid : s.plans.draft.valid = true) : Effect s s.adoptDraft
  | pass : Effect s s.passed
  | direction (d : Direction) : Effect s { s with engine := { s.engine with direction := d } }
  | claim (l : Line) (fields : List Byte) (c : Claim) (t : List Claim) (parsed : parseClaim l fields = some c)
      (stored : storeClaim s.claims.table c = some t) : Effect s (s.setTable t)
  | claimsLeave (stays : Claim → Bool) : Effect s (s.setTable (s.claims.table.filter stays))
  | claimCheck : Effect s { s with claims := ⟨checkClaims s.claims.table, 0⟩ }
  | sample (fireN backupN : Bool) : Effect s { s with safety := s.safety.sample fireN backupN }
  | clearFire (deasserted : s.safety.fire.asserted = false) : Effect s { s with safety := { s.safety with latch := false } }
  | acknowledge (codes : List Byte) : Effect s { s with safety := s.safety.acknowledge codes }
  | tripPin (high : Bool) : Effect s { s with safety := s.safety.tripPin high }
  | tripAsserted :
      Effect s { s with
        safety := { s.safety with trip := true, seenTrip := true, qualifying := none }, stage := s.stage.assertTrip }
  | tripReleased (autoResume : Bool) :
      Effect s { s with
        safety := { s.safety with trip := false, qualifying := none }, stage := s.stage.releaseTrip autoResume }
  | clearTrip (released : s.safety.trip = false) : Effect s { s with stage := { s.stage with resume := true } }
  | periodEnd : Effect s { s with stage := { s.stage with counter := 0, refreshCount := s.stage.refreshCount + 1 } }
  | refresh (flt : BitVec 32) : Effect s (s.refreshed flt)
  | clearFaults (named : Nat → Bool) :
      Effect s { s with faults := s.faults.zipIdx.map fun x => if named x.2 then x.1.cleared else x.1 }
  | port (l : Line) (x : LinePort) (move : PortMove s.matches (s.lines.get l) x) : Effect s (s.setLine l x)
  | clearCounts : Effect s { s with lines := ⟨s.lines.a.zeroCounts, s.lines.b.zeroCounts, s.lines.s.zeroCounts⟩ }
  | save :
      Effect s { s with store := { s.store with
        state := .erasing, snapshot := some (imageOf pendingMarker s.plans.running), index := 0, phase := 0 } }
  | pageErased : Effect s { s with store := s.store.pageErased }
  | programmed : Effect s { s with store := s.store.programmed }
  | verified (differs : Bool) (marker : BitVec 16) : Effect s { s with store := s.store.verified differs marker }
  | held (m : Monitor) : Effect s (s.heldReset m)
  | startUp (address : BitVec 5) (rate : BitVec 2) : Effect s (s.startUp address rate)

/-- A chain of effects. -/
abbrev Effects : State → State → Prop := Relation.ReflTransGen Effect

/-- A guarded effect is the effect or none. -/
theorem Effects.guard {s t : State} (b : Bool) (h : Effects s t) : Effects s (if b then t else s) := by
  cases b
  · exact .refl
  · exact h

/-! ### Portal units and photometers -/

theorem setPortal_ticks_effects (p : Portal) (n : Nat) (s : State) :
    Effects s (s.setPortal p ((s.portals.get p).ticks (s.plans.running.portals.get p) n)) := by
  induction n generalizing s with
  | zero => simpa [PortalUnit.ticks] using Relation.ReflTransGen.refl
  | succ n ih =>
    refine .head (.tick p) ?_
    simpa [PortalUnit.ticks, State.tickPortal, State.setPortal] using ih (s.tickPortal p)

/-- A figure handed over is at most 9999. -/
theorem Photometer.edge_figure_le {k lum : Nat} {m : Photometer} (h : (m.edge k).2 = some lum) : lum ≤ 9999 := by
  unfold Photometer.edge Photometer.convert at h
  cases hm : m.state <;> simp only [hm] at h
  case off => simp at h
  case waiting => simp at h
  case armed => split_ifs at h
  case counting =>
    split_ifs at h
    all_goals
      simp only [Option.some.injEq] at h
      omega

theorem handOverFigure_effects (s : State) (p : Portal) (mode : SourceMode) (figure : Option Nat)
    (h : ∀ lum, figure = some lum → lum ≤ 9999) : Effects s (s.handOverFigure p mode figure) := by
  cases figure with
  | none => exact .refl
  | some lum => exact .single (.localSample p mode lum (h lum rfl))

/-! ### Claims -/

theorem checkClaimsTimes_effects (n : Nat) (s : State) (hn : n ≠ 0) :
    Effects s { s with claims := ⟨checkClaimsTimes n s.claims.table, 0⟩ } := by
  induction n generalizing s with
  | zero => exact absurd rfl hn
  | succ n ih =>
    refine .head .claimCheck ?_
    cases n with
    | zero => exact .refl
    | succ n => exact ih { s with claims := ⟨checkClaims s.claims.table, 0⟩ } n.succ_ne_zero

theorem takeAway_effects (s : State) (owner : Line) (id : Nat) : Effects s (s.takeAway owner id).1 := by
  unfold State.takeAway removeClaim
  split
  · exact .single (.claimsLeave _)
  · exact .refl

/-! ### Requests -/

/-- An owner's part in a request is at most one effect. -/
theorem ownerTakes_effects (k : Kind) (l : Line) (fields : List Byte) (s : State) :
    Effects s (ownerTakes k l fields s).1 := by
  cases k with
  | report =>
    simp only [ownerTakes, takeReport]
    split
    · exact .refl
    · exact .single (.report _ _ _)
  | readPortals => simp only [ownerTakes, takeReadPortals]; split <;> exact .refl
  | readZones => simp only [ownerTakes, takeReadZones]; split <;> exact .refl
  | readChannels =>
    simp only [ownerTakes, takeReadChannels]
    split
    · split <;> exact .refl
    · exact .refl
  | readClaims =>
    simp only [ownerTakes, takeReadClaims]
    split
    · split <;> exact .refl
    · exact .refl
  | readPart => simp only [ownerTakes, takeReadPart]; split <;> exact .refl
  | planRead =>
    simp only [ownerTakes, takePlanRead]
    split
    · split <;> exact .refl
    · exact .refl
  | claim =>
    simp only [ownerTakes, takeClaim]
    split
    · exact .refl
    · rename_i c hc
      split
      · split
        · rename_i t ht
          exact .single (.claim l fields c t hc ht)
        · exact .refl
      · exact .refl
  | release =>
    simp only [ownerTakes, takeRelease]
    split
    · split
      · exact takeAway_effects s _ _
      · split
        · exact .single (.claimsLeave _)
        · exact .refl
    · exact .refl
  | withdraw =>
    simp only [ownerTakes, takeWithdraw]
    split
    · split
      · split
        · exact takeAway_effects s _ _
        · exact .refl
      · exact .refl
    · exact .refl
  | setDirection =>
    simp only [ownerTakes, takeSetDirection]
    split
    · exact .refl
    · split
      · split
        · exact .single (.direction _)
        · exact .refl
      · exact .refl
  | clearFire =>
    simp only [ownerTakes, takeClearFire]
    split
    · exact .refl
    · split
      · exact .refl
      · exact .single (.clearFire (by simpa using ‹¬s.safety.fire.asserted = true›))
  | clearTrip =>
    simp only [ownerTakes, takeClearTrip]
    split
    · exact .refl
    · split
      · exact .refl
      · split
        · exact .single (.clearTrip (by simpa using ‹¬s.safety.trip = true›))
        · exact .refl
  | ackEvents =>
    simp only [ownerTakes, takeAckEvents]
    split
    · exact .single (.acknowledge _)
    · exact .refl
  | clearFaults =>
    simp only [ownerTakes, takeClearFaults]
    split
    · exact .single (.clearFaults fun c => fields.contains (u8 c))
    · exact .refl
  | clearCounts =>
    simp only [ownerTakes, takeClearCounts]
    split
    · exact .single .clearCounts
    · exact .refl
  | draftLoad =>
    simp only [ownerTakes, takeDraftLoad]
    split
    · exact .single .draftLoad
    · exact .refl
  | draftPut =>
    simp only [ownerTakes, takeDraftPut]
    split
    · exact .single (.draftPut fields _ ‹_›)
    · exact .refl
  | adopt =>
    simp only [ownerTakes, takeAdopt]
    split
    · split
      · rename_i hnone
        exact .single (.adopt (by simp [Plan.valid, hnone]))
      · exact .refl
    · exact .refl
  | save =>
    simp only [ownerTakes, takeSave]
    split
    · exact .refl
    · split
      · exact .single .save
      · exact .refl

theorem dispatch_effects (l : Line) (kind : Byte) (fields : List Byte) (s : State) :
    Effects s (dispatch l kind fields s).1 := by
  unfold dispatch
  split
  · exact .refl
  · split
    · exact ownerTakes_effects ..
    · exact .refl

theorem dispatchBroadcast_effects (l : Line) (kind : Byte) (fields : List Byte) (s : State) :
    Effects s (dispatchBroadcast l kind fields s) := by
  unfold dispatchBroadcast
  split
  · exact ownerTakes_effects .setDirection l fields s
  · split
    · exact .refl
    · exact ownerTakes_effects .report l fields s
  · exact .refl

/-- No owner touches a port but CLEAR COUNTS, which leaves all of it but the counters. -/
theorem ownerTakes_port (k : Kind) (l m : Line) (fields : List Byte) (s : State) :
    (ownerTakes k l fields s).1.lines.get m = s.lines.get m
      ∨ (k = .clearCounts ∧ (ownerTakes k l fields s).1.lines.get m = (s.lines.get m).zeroCounts) := by
  by_cases hk : k = .clearCounts
  · subst hk
    simp only [ownerTakes, takeClearCounts]
    split
    · cases m <;> exact .inr ⟨trivial, rfl⟩
    · exact .inl rfl
  · left
    cases k with
    | clearCounts => exact absurd rfl hk
    | _ =>
      simp only [ownerTakes, takeReport, takeReadPortals, takeReadZones, takeReadChannels, takeReadClaims, takeReadPart,
        takeClaim, takeRelease, takeWithdraw, takeSetDirection, takeClearFire, takeClearTrip, takeAckEvents,
        takeClearFaults, takePlanRead, takeDraftLoad, takeDraftPut, takeAdopt, takeSave, State.takeAway]
      repeat' split
      all_goals rfl

theorem dispatch_port (l m : Line) (kind : Byte) (fields : List Byte) (s : State) :
    (dispatch l kind fields s).1.lines.get m = s.lines.get m
      ∨ (dispatch l kind fields s).1.lines.get m = (s.lines.get m).zeroCounts := by
  unfold dispatch
  split
  · exact .inl rfl
  · split
    · exact (ownerTakes_port ..).imp_right And.right
    · exact .inl rfl

/-- A request handed over changes neither the state nor the frame of any port. -/
theorem dispatch_port_frame (l m : Line) (kind : Byte) (fields : List Byte) (s : State) :
    ((dispatch l kind fields s).1.lines.get m).state = (s.lines.get m).state
      ∧ ((dispatch l kind fields s).1.lines.get m).frame = (s.lines.get m).frame := by
  rcases dispatch_port l m kind fields s with h | h <;> rw [h] <;> exact ⟨rfl, rfl⟩

/-- A hand-over at a port in COLLECT whose frame is addressed or broadcast as `bc` says. -/
theorem handOver_effects {s : State} {l : Line} {a : Byte} (body : List Byte)
    (collects : (s.lines.get l).state = .collect) (startsWith : (s.lines.get l).frame.head? = some a) :
    Effects s (s.handOver l (a == 0) body) := by
  cases body with
  | nil => exact .refl
  | cons kind fields =>
    simp only [State.handOver]
    split
    · exact (dispatchBroadcast_effects l kind fields s).tail (.port l _ .afterBroadcast)
    · rename_i hne
      obtain ⟨hstate, hframe⟩ := dispatch_port_frame l l kind fields s
      exact (dispatch_effects l kind fields s).tail
        (.port l _ (.afterRequest a _ (hstate.trans collects) (hframe ▸ startsWith) (by simpa using hne)))

/-- A matching address character leaves a port that does not send in COLLECT, with a frame that starts with it. -/
theorem LinePort.address_of_match {x : LinePort} (v : Byte) (h : x.state ≠ .reply) :
    (x.address true v).state = .collect ∧ (x.address true v).frame = [v] ∧ (x.address true v).silence = some 0 := by
  unfold LinePort.address
  cases hx : x.state with
  | reply => exact absurd hx h
  | listen => exact ⟨rfl, rfl, rfl⟩
  | collect => exact ⟨rfl, rfl, rfl⟩
  | turnaround => exact ⟨rfl, rfl, rfl⟩

theorem frameAddress_eq_zero (s : State) (bc : Bool) : (s.frameAddress bc == 0) = bc := by
  cases bc with
  | true => rfl
  | false =>
    by_cases h : s.straps.address = 0
    · simp [State.frameAddress, h]
    · simpa using (frameAddress_matches s h).1

theorem request_effects (s : State) (l : Line) (bc : Bool) (body : List Byte) : Effects s (s.request l bc body) := by
  unfold State.request State.frameRest
  split
  · exact .refl
  · rename_i hheard
    have hreply : (s.lines.get l).state ≠ .reply := fun h => hheard (by simp [h])
    have haddressed : Effects s (s.addressed l bc) := .single (.port l _ (.address (s.frameAddress bc)))
    split
    · exact haddressed
    · rename_i hmatch
      have hmatch : s.matches (s.frameAddress bc) = true := by simpa using hmatch
      split
      · exact haddressed.tail (.port l _ .reject)
      · obtain ⟨hstate, hframe, -⟩ := LinePort.address_of_match (s.frameAddress bc) hreply
        have hover := handOver_effects (s := s.addressed l bc) (l := l) (a := s.frameAddress bc) body
          (by simp [hmatch, hstate]) (by simp [hmatch, hframe])
        rw [frameAddress_eq_zero] at hover
        exact haddressed.trans hover

/-! ### Characters -/

theorem collectChar_effects {s : State} {l : Line} (v : Byte) (collects : (s.lines.get l).state = .collect) :
    Effects s (s.collectChar l v) := by
  simp only [State.collectChar]
  split
  · rename_i a len hframe
    obtain ⟨hfirst, rfl⟩ : (s.lines.get l).frame = [a] ∧ v = len := by
      have := List.append_inj' (s₂ := [a]) (t₂ := [len]) hframe rfl
      simpa using this
    split
    · exact .single (.port l _ .reject)
    · rename_i hlen
      refine .single (.port l _ (.keep v collects (fun _ => ?_) fun b c rest hrest => ?_))
      · simp only [not_or, not_lt] at hlen
        refine ⟨Nat.one_le_iff_ne_zero.2 fun h0 => hlen.1 (BitVec.eq_of_toNat_eq (by simpa using h0)), hlen.2⟩
      · simp [hfirst] at hrest
  · rename_i a len rest hne hframe
    have hhead : (s.lines.get l).frame ≠ [] → (s.lines.get l).frame.head? = some a := by
      intro h
      obtain ⟨b, more, hb⟩ := List.exists_cons_of_ne_nil h
      simp [hb] at hframe ⊢
      exact hframe.1
    have hnonempty : (s.lines.get l).frame ≠ [] := by
      intro h
      simp [h] at hframe
    split
    · split
      · exact handOver_effects _ collects (hhead hnonempty)
      · exact .single (.port l _ .reject)
    · rename_i hcount
      refine .single (.port l _ (.keep v collects (fun h1 => ?_) fun b c more hmore hlength => ?_))
      · obtain ⟨b, hb⟩ := List.length_eq_one_iff.1 h1
        simp [hb] at hframe
        exact absurd hframe.2.2 hne
      · simp only [hmore, List.cons_append, List.cons.injEq] at hframe
        obtain ⟨rfl, rfl, rfl⟩ := hframe
        exact hcount (by simp [hlength])
  · rename_i hpair hlong
    refine .single (.port l _ (.keep v collects (fun h1 => ?_) fun a len rest hrest => ?_))
    · obtain ⟨b, hb⟩ := List.length_eq_one_iff.1 h1
      exact absurd (by simp [hb]) (hpair b v)
    · exact absurd (by simp [hrest]) (hlong a len (rest ++ [v]))

theorem dataChar_effects (s : State) (l : Line) (v : Byte) : Effects s (s.dataChar l v) := by
  unfold State.dataChar
  split
  · exact .refl
  · exact collectChar_effects v ‹_›
  · exact .single (.port l _ (.restartSilence ‹_›))
  · exact .refl

theorem framingError_effects (s : State) (l : Line) : Effects s (s.setLine l (s.lines.get l).framingError) := by
  unfold LinePort.framingError
  split
  · simpa using Relation.ReflTransGen.refl
  · exact .single (.port l _ .reject)
  · exact .single (.port l _ (.restartSilence ‹_›))
  · simpa using Relation.ReflTransGen.refl

theorem gap_effects (s : State) (l : Line) : Effects s (s.setLine l (s.lines.get l).gap) := by
  unfold LinePort.gap
  split
  · exact .single (.port l _ .reject)
  · simpa using Relation.ReflTransGen.refl

/-! ### Commands and steps -/

/-- Every command is a chain of effects. -/
theorem exec_effects {c : Instr} {s t : State} (h : exec c s = .next t) : Effects s t := by
  cases c <;> obtain rfl := Host.Outcome.next.inj h
  case tick p => exact .guard _ (.single (.tick p))
  case holdTimerExpiry p => exact .guard _ (setPortal_ticks_effects p _ s)
  case intervalTimerExpiry p => exact .guard _ (.single (.photometer p _))
  case phinRisingEdge p k =>
    exact .guard _ (.head (.photometer p _) (handOverFigure_effects _ p _ _ fun lum => Photometer.edge_figure_le))
  case firstEdgeTimeout p => exact .guard _ (.single (.photometer p _))
  case countOverflowTimeout p => exact .guard _ (.single (.photometer p _))
  case levelPass => exact .guard _ (.single .pass)
  case claimCheck => exact .guard _ (.single .claimCheck)
  case claimExpiry =>
    by_cases hn : checksToExpiry s.claims.table = 0
    · simpa [hn] using Relation.ReflTransGen.refl
    · exact .guard _ (checkClaimsTimes_effects _ s hn)
  case sampleEvent fireN backupN => exact .guard _ (.head (.pins { s.pins with fireN := fireN, backupN := backupN }) (.single (.sample fireN backupN)))
  case tripPinChange high =>
    cases hw : s.watching with
    | true =>
      simp only [if_true]
      exact .head (.pins { s.pins with tripN := high }) (.single (.tripPin high))
    | false => exact .single (.pins { s.pins with tripN := high })
  case tripAssertionAccepted => exact .guard _ (.head (.pins { s.pins with tripN := false }) (.single .tripAsserted))
  case tripReleaseAccepted => exact .guard _ (.head (.pins { s.pins with tripN := true }) (.single (.tripReleased _)))
  case periodEnd =>
    refine .guard _ ?_
    split
    · exact .single (.refresh _)
    · exact .single .periodEnd
  case refresh flt => exact .guard _ (.single (.refresh flt))
  case addressCharacter l v => exact .guard _ (.single (.port l _ (.address v)))
  case dataCharacter l v => exact .guard _ (dataChar_effects s l v)
  case framingError l => exact .guard _ (framingError_effects s l)
  case gapTimeout l => exact .guard _ (gap_effects s l)
  case turnaroundSilence l => exact .guard _ (.single (.port l _ .beginReply))
  case replyEnd l => exact .guard _ (.single (.port l _ .endReply))
  case pageErased => exact .guard _ (.single .pageErased)
  case programmingComplete => exact .guard _ (.single .programmed)
  case verifyComplete differs marker => exact .guard _ (.single (.verified differs marker))
  case resetEntry cause => exact .single (.held _)
  case resetRelease cause =>
    split
    · split
      · exact .head (.monitor _) (.single (.tripPin s.pins.tripN))
      · exact .single (.monitor _)
    · exact .refl
  case startUp address rate =>
    split
    · exact .single (.startUp address rate)
    · exact .refl
  all_goals exact request_effects s _ _ _

/-- Every step is a chain of effects. -/
theorem step_effects {s t : State} (h : step s = .next t) : Effects s t := by
  rcases step_cases h with ⟨-, rfl⟩ | ⟨c, rest, -, hexec⟩
  · exact .single .clock
  · exact .head (.queue rest) (exec_effects hexec)

/-- What every effect keeps, every step keeps. -/
theorem step_keeps {P : State → Prop} (keeps : ∀ {s t : State}, Effect s t → P s → P t) {s t : State}
    (h : step s = .next t) (hs : P s) : P t := by
  have hchain := step_effects h
  clear h
  induction hchain with
  | refl => exact hs
  | tail _ he ih => exact keeps he ih

end Sys2Proof.Machine
end

section
/-! PROOFS. The plan records on the wire (R204, R205): a body parses to a record exactly when it is the characters of that
record and every field is in range. -/

namespace Sys2Proof.Machine

/-! ### Codes (R50) -/

theorem Direction.ofCode_eq_some {n : Nat} {d : Direction} : Direction.ofCode n = some d ↔ n = d.code := by
  unfold Direction.ofCode
  split <;> cases d <;> simp_all [Direction.code]

theorem SourceMode.ofCode_eq_some {n : Nat} {m : SourceMode} : SourceMode.ofCode n = some m ↔ n = m.code := by
  unfold SourceMode.ofCode
  split <;> cases m <;> simp_all [SourceMode.code]

theorem ZoneKind.ofCode_eq_some {n : Nat} {k : ZoneKind} : ZoneKind.ofCode n = some k ↔ n = k.code := by
  unfold ZoneKind.ofCode
  split <;> cases k <;> simp_all [ZoneKind.code]

theorem switchOfCode_eq_some {n : Nat} {b : Bool} : switchOfCode n = some b ↔ n = switchCode b := by
  unfold switchOfCode
  split <;> cases b <;> simp_all [switchCode]

theorem zonePortalOfCode_eq_some {n : Nat} {p : Option Portal} : zonePortalOfCode n = some p ↔ n = zonePortalCode p := by
  unfold zonePortalOfCode zonePortalCode
  split_ifs <;> rcases p with _ | _ | _ <;> simp_all

theorem portalOfCode_eq_some {n : Nat} {p : Portal} : portalOfCode n = some p ↔ n = if p = .a then 0 else 1 := by
  unfold portalOfCode
  split <;> cases p <;> simp_all

theorem zoneFieldInRange_iff {z : Option Nat} : zoneFieldInRange z = true ↔ ∀ n, z = some n → n ≤ 11 := by
  cases z <;> simp [zoneFieldInRange]

/-- A channel's zone of a listed code is in range, and each zone in range has its code. -/
theorem channelZoneOfCode_eq_some {n : Nat} {z : Option Nat} :
    channelZoneOfCode n = some z ↔ zoneFieldInRange z = true ∧ n = channelZoneCode z := by
  unfold channelZoneOfCode channelZoneCode zoneFieldInRange
  split_ifs <;> cases z <;> simp <;> omega

@[simp] theorem Direction.code_lt (d : Direction) : d.code < 256 := by cases d <;> decide
@[simp] theorem SourceMode.code_lt (m : SourceMode) : m.code < 256 := by cases m <;> decide
@[simp] theorem ZoneKind.code_lt (k : ZoneKind) : k.code < 256 := by cases k <;> decide
@[simp] theorem switchCode_lt (b : Bool) : switchCode b < 256 := by cases b <;> decide
@[simp] theorem zonePortalCode_lt (p : Option Portal) : zonePortalCode p < 256 := by rcases p with _ | _ | _ <;> decide

theorem channelZoneCode_lt {z : Option Nat} (h : zoneFieldInRange z = true) : channelZoneCode z < 256 := by
  cases z with
  | none => decide
  | some n => simp [zoneFieldInRange] at h; simp [channelZoneCode]; omega

/-! ### Ranges (R45 to R49) -/

theorem General.inRange_iff (g : General) : g.inRange = true ↔
    1 ≤ g.passPeriod ∧ g.passPeriod ≤ 20 ∧ 2000 ≤ g.pwmPeriod ∧ g.pwmPeriod ≤ 40000 ∧ 1 ≤ g.repetition
      ∧ g.repetition ≤ 64 ∧ g.dayLevel ≤ 1000 ∧ g.nightLevel ≤ 1000 ∧ g.nightThreshold ≤ 9999 ∧ g.nightBand ≤ 999
      ∧ g.closedLevel ≤ 1000 ∧ g.fireLevel ≤ 1000 ∧ g.backupCap ≤ 1000 ∧ 1 ≤ g.confirmCount ∧ g.confirmCount ≤ 15 := by
  simp [General.inRange, and_assoc]

theorem PortalRecord.inRange_iff (r : PortalRecord) : r.inRange = true ↔
    r.defaultLum ≤ 9999 ∧ 1 ≤ r.sampleLife ∧ r.sampleLife ≤ 600 ∧ r.holdTime ≤ 900 ∧ r.constS ≤ 16777215
      ∧ r.constN ∈ [1, 2, 4, 8] ∧ 1 ≤ r.interval ∧ r.interval ≤ 60 := by
  simp [PortalRecord.inRange, and_assoc, or_assoc]

theorem Breakpoint.inRange_iff (b : Breakpoint) : b.inRange = true ↔ b.lum ≤ 9999 ∧ b.demand ≤ 1000 := by
  simp [Breakpoint.inRange]

theorem curveInRange_iff (c : List Breakpoint) : curveInRange c = true ↔
    2 ≤ c.length ∧ c.length ≤ 12 ∧ ∀ b ∈ c, b.lum ≤ 9999 ∧ b.demand ≤ 1000 := by
  simp [curveInRange, Breakpoint.inRange, and_assoc]

theorem ZoneRecord.inRange_iff (r : ZoneRecord) : r.inRange = true ↔
    r.factor ≤ 1000 ∧ r.floor ≤ 1000 ∧ r.ceiling ≤ 1000 ∧ 1 ≤ r.rise ∧ r.rise ≤ 1000 ∧ 1 ≤ r.fall ∧ r.fall ≤ 1000 := by
  simp [ZoneRecord.inRange, and_assoc]

theorem ChannelRecord.inRange_iff (r : ChannelRecord) : r.inRange = true ↔
    (∀ z, r.zone = some z → z ≤ 11) ∧ r.cutoff ≤ 500 ∧ r.lo ≤ 500 ∧ 500 ≤ r.hi ∧ r.hi ≤ 1000 := by
  simp [ChannelRecord.inRange, zoneFieldInRange_iff, and_assoc]

/-- A plan in range: every record in range, a curve per portal, twelve zones and thirty-two channels. -/
theorem Plan.inRange_iff (p : Plan) : p.inRange = true ↔
    p.general.inRange = true ∧ (∀ x, (p.portals.get x).inRange = true) ∧ (∀ x, curveInRange (p.curves.get x) = true)
      ∧ p.zones.length = 12 ∧ (∀ r ∈ p.zones, r.inRange = true)
      ∧ p.channels.length = 32 ∧ ∀ r ∈ p.channels, r.inRange = true := by
  have hportals : (∀ x, (p.portals.get x).inRange = true) ↔ p.portals.a.inRange = true ∧ p.portals.b.inRange = true :=
    ⟨fun h => ⟨h .a, h .b⟩, fun h x => by cases x; exacts [h.1, h.2]⟩
  have hcurves : (∀ x, curveInRange (p.curves.get x) = true) ↔
      curveInRange p.curves.a = true ∧ curveInRange p.curves.b = true :=
    ⟨fun h => ⟨h .a, h .b⟩, fun h x => by cases x; exacts [h.1, h.2]⟩
  rw [hportals, hcurves]
  simp [Plan.inRange, and_assoc]

/-! ### The general record, the portal records -/

theorem General.parse_bytes {g : General} (h : g.inRange = true) : General.parse g.bytes = some g := by
  obtain ⟨h1, h2, h3, h4, h5, h6, h7, h8, h9, h10, h11, h12, h13, h14, h15⟩ := g.inRange_iff.1 h
  have hdir : Direction.ofCode (u8 g.initialDirection.code).toNat = some g.initialDirection :=
    Direction.ofCode_eq_some.2 (u8_toNat_of_lt (Direction.code_lt _))
  have hauto : switchOfCode (u8 (switchCode g.autoResume)).toNat = some g.autoResume :=
    switchOfCode_eq_some.2 (u8_toNat_of_lt (switchCode_lt _))
  simp only [General.bytes, be16, List.cons_append, List.nil_append, General.parse, hdir, hauto]
  rw [nat16_be16 (by omega), nat16_be16 (by omega), nat16_be16 (by omega), nat16_be16 (by omega), nat16_be16 (by omega),
    nat16_be16 (by omega), nat16_be16 (by omega), nat16_be16 (by omega), u8_toNat_of_lt (by omega),
    u8_toNat_of_lt (by omega), u8_toNat_of_lt (by omega)]
  exact checked_eq_some.2 ⟨h, rfl⟩

theorem General.parse_eq_some {l : List Byte} {g : General} :
    General.parse l = some g ↔ g.inRange = true ∧ l = g.bytes := by
  refine ⟨fun h => ?_, fun ⟨hr, hl⟩ => hl ▸ General.parse_bytes hr⟩
  unfold General.parse at h
  split at h
  · split at h
    · rename_i dir auto hdir hauto
      obtain ⟨hr, rfl⟩ := checked_eq_some.1 h
      refine ⟨hr, ?_⟩
      simp only [General.bytes, be16_nat16, ← Direction.ofCode_eq_some.1 hdir, ← switchOfCode_eq_some.1 hauto,
        u8_of_toNat, List.cons_append, List.nil_append]
    · exact absurd h (by simp)
  · exact absurd h (by simp)

theorem PortalRecord.parse_bytes {r : PortalRecord} (h : r.inRange = true) : PortalRecord.parse r.bytes = some r := by
  obtain ⟨h1, h2, h3, h4, h5, h6, h7, h8⟩ := r.inRange_iff.1 h
  have hmode : SourceMode.ofCode (u8 r.mode.code).toNat = some r.mode :=
    SourceMode.ofCode_eq_some.2 (u8_toNat_of_lt (SourceMode.code_lt _))
  have hn : r.constN < 256 := by
    simp only [List.mem_cons, List.not_mem_nil, or_false] at h6
    omega
  simp only [PortalRecord.bytes, be16, be24, List.cons_append, List.nil_append, PortalRecord.parse, hmode]
  rw [nat16_be16 (by omega), nat16_be16 (by omega), nat16_be16 (by omega), nat24_be24 (by omega), u8_toNat_of_lt hn,
    u8_toNat_of_lt (by omega)]
  exact checked_eq_some.2 ⟨h, rfl⟩

/-- The characters of the number in a three-character field are those it came from. -/
theorem be24_nat24 (h m l : Byte) : be24 (nat24 h m l) = [h, m, l] := by
  have h1 := h.isLt
  have h2 := m.isLt
  have h3 := l.isLt
  have e1 : u8 (nat24 h m l / 65536) = h := by
    apply BitVec.eq_of_toNat_eq; rw [u8_toNat, nat24]; omega
  have e2 : u8 (nat24 h m l / 256) = m := by
    apply BitVec.eq_of_toNat_eq; rw [u8_toNat, nat24]; omega
  have e3 : u8 (nat24 h m l) = l := by
    apply BitVec.eq_of_toNat_eq; rw [u8_toNat, nat24]; omega
  rw [be24, e1, e2, e3]

theorem PortalRecord.parse_eq_some {l : List Byte} {r : PortalRecord} :
    PortalRecord.parse l = some r ↔ r.inRange = true ∧ l = r.bytes := by
  refine ⟨fun h => ?_, fun ⟨hr, hl⟩ => hl ▸ PortalRecord.parse_bytes hr⟩
  unfold PortalRecord.parse at h
  split at h
  · split at h
    · rename_i mode hmode
      obtain ⟨hr, rfl⟩ := checked_eq_some.1 h
      refine ⟨hr, ?_⟩
      simp only [PortalRecord.bytes, be16_nat16, be24_nat24, ← SourceMode.ofCode_eq_some.1 hmode, u8_of_toNat,
        List.cons_append, List.nil_append]
    · exact absurd h (by simp)
  · exact absurd h (by simp)

/-! ### Curves -/

@[simp] theorem Breakpoint.bytes_length (b : Breakpoint) : b.bytes.length = 4 := rfl

theorem Breakpoint.parse_eq_some {l : List Byte} {b : Breakpoint} :
    Breakpoint.parse l = some b ↔ b.inRange = true ∧ l = b.bytes := by
  constructor
  · intro h
    unfold Breakpoint.parse at h
    split at h
    · obtain ⟨hr, rfl⟩ := checked_eq_some.1 h
      exact ⟨hr, by simp only [Breakpoint.bytes, be16_nat16, List.cons_append, List.nil_append]⟩
    · exact absurd h (by simp)
  · rintro ⟨hr, rfl⟩
    obtain ⟨h1, h2⟩ := b.inRange_iff.1 hr
    simp only [Breakpoint.bytes, be16, List.cons_append, List.nil_append, Breakpoint.parse]
    rw [nat16_be16 (by omega), nat16_be16 (by omega)]
    exact checked_eq_some.2 ⟨hr, rfl⟩

/-- Pieces that cover a list exactly, joined again, are the list. -/
theorem chunks_flatten {k n : Nat} {l : List Byte} (h : l.length = k * n) : (chunks k n l).flatten = l := by
  induction n generalizing l with
  | zero => simpa [chunks] using (List.eq_nil_of_length_eq_zero (by simpa using h)).symm
  | succ n ih =>
    have hrest : (l.drop k).length = k * n := by rw [List.length_drop, h, Nat.mul_succ]; omega
    rw [chunks, List.flatten_cons, ih hrest, List.take_append_drop]

/-- A list of records of one width parses piece by piece exactly when it is the characters of records in range. -/
theorem allSome_chunks_eq_some {α : Type} {k n : Nat} {parse : List Byte → Option α} {ok : α → Bool}
    {bytes : α → List Byte} (hparse : ∀ l x, parse l = some x ↔ ok x = true ∧ l = bytes x)
    (hwidth : ∀ x, (bytes x).length = k) {l : List Byte} (hl : l.length = k * n) {xs : List α} :
    allSome ((chunks k n l).map parse) = some xs ↔
      xs.length = n ∧ (∀ x ∈ xs, ok x = true) ∧ l = xs.flatMap bytes := by
  rw [allSome_eq_some]
  constructor
  · intro h
    have hlen : xs.length = n := by simpa using (congrArg List.length h).symm
    have hpieces : ∀ (cs : List (List Byte)) (ys : List α), cs.map parse = ys.map some →
        (∀ y ∈ ys, ok y = true) ∧ cs = ys.map bytes := by
      intro cs
      induction cs with
      | nil => intro ys hys; cases ys with
        | nil => simp
        | cons y ys => simp at hys
      | cons c cs ih => intro ys hys; cases ys with
        | nil => simp at hys
        | cons y ys =>
          simp only [List.map_cons, List.cons.injEq] at hys
          obtain ⟨hok, hc⟩ := (hparse c y).1 hys.1
          obtain ⟨hoks, hcs⟩ := ih ys hys.2
          exact ⟨List.forall_mem_cons.2 ⟨hok, hoks⟩, by rw [hc, hcs, List.map_cons]⟩
    obtain ⟨hok, hcs⟩ := hpieces _ _ h
    refine ⟨hlen, hok, ?_⟩
    rw [← chunks_flatten hl, hcs, List.flatMap_def]
  · rintro ⟨rfl, hok, rfl⟩
    have hc := chunks_flatMap bytes xs [] fun x _ => hwidth x
    rw [List.append_nil] at hc
    rw [hc, List.map_map]
    exact List.map_congr_left fun x hx => (hparse _ _).2 ⟨hok x hx, rfl⟩

theorem flatMap_length_of_width {α : Type} {k : Nat} {bytes : α → List Byte} (hwidth : ∀ x, (bytes x).length = k)
    (xs : List α) : (xs.flatMap bytes).length = k * xs.length := by
  induction xs with
  | nil => rfl
  | cons x xs ih => rw [List.flatMap_cons, List.length_append, ih, hwidth, List.length_cons, Nat.mul_succ]; omega

theorem parseCurve_eq_some {l : List Byte} {c : List Breakpoint} :
    parseCurve l = some c ↔ curveInRange c = true ∧ l = curveBytes c := by
  have hpoints := fun {n : Nat} {rest : List Byte} (hl : rest.length = 4 * n) =>
    allSome_chunks_eq_some (xs := c) (fun l x => Breakpoint.parse_eq_some (l := l) (b := x)) Breakpoint.bytes_length hl
  cases l with
  | nil => simp [parseCurve, curveBytes]
  | cons m rest =>
    simp only [parseCurve, curveBytes, List.cons.injEq]
    constructor
    · intro h
      split at h
      · rename_i hm
        obtain ⟨hlow, hhigh, hrest⟩ := hm
        obtain ⟨hlen, hok, hbytes⟩ := (hpoints hrest).1 h
        refine ⟨?_, ?_, hbytes⟩
        · simp only [curveInRange, Bool.and_eq_true, decide_eq_true_eq, List.all_eq_true, hlen]
          exact ⟨⟨hlow, hhigh⟩, hok⟩
        · rw [hlen, u8_of_toNat]
      · exact absurd h (by simp)
    · rintro ⟨hr, rfl, rfl⟩
      simp only [curveInRange, Bool.and_eq_true, decide_eq_true_eq, List.all_eq_true] at hr
      obtain ⟨⟨hlow, hhigh⟩, hok⟩ := hr
      have hm : (u8 c.length).toNat = c.length := u8_toNat_of_lt (by omega)
      have hlen := flatMap_length_of_width Breakpoint.bytes_length c
      rw [hm, if_pos ⟨hlow, hhigh, hlen⟩]
      exact (hpoints hlen).2 ⟨rfl, hok, rfl⟩

/-! ### Zone records, channel records -/

theorem ZoneRecord.parse_bytes {r : ZoneRecord} (h : r.inRange = true) : ZoneRecord.parse r.bytes = some r := by
  obtain ⟨h1, h2, h3, h4, h5, h6, h7⟩ := r.inRange_iff.1 h
  have hkind : ZoneKind.ofCode (u8 r.kind.code).toNat = some r.kind :=
    ZoneKind.ofCode_eq_some.2 (u8_toNat_of_lt (ZoneKind.code_lt _))
  have hportal : zonePortalOfCode (u8 (zonePortalCode r.portal)).toNat = some r.portal :=
    zonePortalOfCode_eq_some.2 (u8_toNat_of_lt (zonePortalCode_lt _))
  have hcomp : switchOfCode (u8 (switchCode r.compensation)).toNat = some r.compensation :=
    switchOfCode_eq_some.2 (u8_toNat_of_lt (switchCode_lt _))
  simp only [ZoneRecord.bytes, be16, List.cons_append, List.nil_append, ZoneRecord.parse, hkind, hportal, hcomp]
  rw [nat16_be16 (by omega), nat16_be16 (by omega), nat16_be16 (by omega), nat16_be16 (by omega), nat16_be16 (by omega)]
  exact checked_eq_some.2 ⟨h, rfl⟩

theorem ZoneRecord.parse_eq_some {l : List Byte} {r : ZoneRecord} :
    ZoneRecord.parse l = some r ↔ r.inRange = true ∧ l = r.bytes := by
  refine ⟨fun h => ?_, fun ⟨hr, hl⟩ => hl ▸ ZoneRecord.parse_bytes hr⟩
  unfold ZoneRecord.parse at h
  split at h
  · split at h
    · rename_i kind portal comp hkind hportal hcomp
      obtain ⟨hr, rfl⟩ := checked_eq_some.1 h
      refine ⟨hr, ?_⟩
      simp only [ZoneRecord.bytes, be16_nat16, ← ZoneKind.ofCode_eq_some.1 hkind, ← zonePortalOfCode_eq_some.1 hportal,
        ← switchOfCode_eq_some.1 hcomp, u8_of_toNat, List.cons_append, List.nil_append]
    · exact absurd h (by simp)
  · exact absurd h (by simp)

/-- The number in character 2 of a channel record (R204). -/
def ChannelRecord.codeNumber (r : ChannelRecord) : Nat :=
  (if r.polarity = .activeLow then 128 else 0) + (if r.alignment = .trailing then 64 else 0)
    + (if r.trip = .dark then 32 else 0) + (if r.sense then 16 else 0) + r.cutoff / 256

theorem ChannelRecord.codeByte_eq (r : ChannelRecord) : r.codeByte = u8 r.codeNumber := rfl

/-- The bits of character 2, for a cutoff of at most 511. -/
theorem ChannelRecord.codeNumber_bits {r : ChannelRecord} (h : r.cutoff < 512) :
    r.codeNumber < 256 ∧ (128 ≤ r.codeNumber ↔ r.polarity = .activeLow)
      ∧ (1 ≤ r.codeNumber / 64 % 2 ↔ r.alignment = .trailing) ∧ (1 ≤ r.codeNumber / 32 % 2 ↔ r.trip = .dark)
      ∧ (1 ≤ r.codeNumber / 16 % 2 ↔ r.sense = true) ∧ r.codeNumber / 2 % 8 = 0
      ∧ r.codeNumber % 2 * 256 + r.cutoff % 256 = r.cutoff := by
  unfold ChannelRecord.codeNumber
  split_ifs <;> simp_all <;> omega

theorem ChannelRecord.parse_bytes {r : ChannelRecord} (h : r.inRange = true) : ChannelRecord.parse r.bytes = some r := by
  obtain ⟨hzone, hcutoff, hlo, hmid, hhi⟩ := r.inRange_iff.1 h
  have hz := zoneFieldInRange_iff.2 hzone
  have hcode : channelZoneOfCode (u8 (channelZoneCode r.zone)).toNat = some r.zone :=
    channelZoneOfCode_eq_some.2 ⟨hz, u8_toNat_of_lt (channelZoneCode_lt hz)⟩
  obtain ⟨hlt, hpol, hali, htrip, hsense, hlow, hcut⟩ := ChannelRecord.codeNumber_bits (r := r) (by omega)
  simp only [ChannelRecord.bytes, be16, List.cons_append, List.nil_append, ChannelRecord.parse, hcode,
    ChannelRecord.codeByte_eq, u8_toNat_of_lt hlt]
  rw [if_pos hlow, u8_toNat r.cutoff, hcut, nat16_be16 (by omega), nat16_be16 (by omega)]
  refine checked_eq_some.2 ⟨?_, ?_⟩
  all_goals
    rcases r with ⟨zone, cutoff, lo, hi, polarity, alignment, trip, sense⟩
    simp only [hpol, hali, htrip, hsense] at *
    cases polarity <;> cases alignment <;> cases trip <;> cases sense <;> simp_all

theorem ChannelRecord.bytes_of_parse {l : List Byte} {r : ChannelRecord} (h : ChannelRecord.parse l = some r) :
    r.inRange = true ∧ r.bytes = l := by
  unfold ChannelRecord.parse at h
  split at h
  · rename_i z k c l1 l0 h1 h0
    split at h
    · rename_i zone hzone
      split at h
      · rename_i hk
        obtain ⟨hr, rfl⟩ := checked_eq_some.1 h
        refine ⟨hr, ?_⟩
        obtain ⟨-, hz⟩ := channelZoneOfCode_eq_some.1 hzone
        have hkl := k.isLt
        have hcl := c.isLt
        have hcut : u8 (k.toNat % 2 * 256 + c.toNat) = c := by
          apply BitVec.eq_of_toNat_eq; rw [u8_toNat]; omega
        have hcode : ∀ r : ChannelRecord, r.codeNumber = k.toNat → r.codeByte = k := fun r hr => by
          rw [ChannelRecord.codeByte_eq, hr, u8_of_toNat]
        simp only [ChannelRecord.bytes, be16_nat16, ← hz, u8_of_toNat, hcut, List.cons_append, List.nil_append]
        rw [hcode]
        simp only [ChannelRecord.codeNumber]
        split_ifs <;> simp_all <;> omega
      · exact absurd h (by simp)
    · exact absurd h (by simp)
  · exact absurd h (by simp)

theorem ChannelRecord.parse_eq_some {l : List Byte} {r : ChannelRecord} :
    ChannelRecord.parse l = some r ↔ r.inRange = true ∧ l = r.bytes :=
  ⟨fun h => (ChannelRecord.bytes_of_parse h).imp_right Eq.symm, fun ⟨hr, hl⟩ => hl ▸ ChannelRecord.parse_bytes hr⟩

@[simp] theorem General.bytes_length (g : General) : g.bytes.length = 21 := rfl
@[simp] theorem PortalRecord.bytes_length (r : PortalRecord) : r.bytes.length = 12 := rfl
@[simp] theorem ZoneRecord.bytes_length (r : ZoneRecord) : r.bytes.length = 13 := rfl
@[simp] theorem ChannelRecord.bytes_length (r : ChannelRecord) : r.bytes.length = 7 := rfl

end Sys2Proof.Machine
end

section
/-! PROOFS. A request that reaches its owner, and DRAFT PUT (R51, R56 to R60). -/

namespace Sys2Proof.Machine

/-! ### A request at its owner -/

/-- An addressed request on a line that may send it is answered as its owner says. -/
theorem exec_reached (k : Kind) {s t : State} {l : Line} {fields : List Byte} {a : Answer} (h : s.Reached l)
    (hf : fields.length ≤ 59) (hallowed : k.allowed l = true) (howner : ownerTakes k l fields (s.addressed l false) = (t, a)) :
    exec (k.command l false fields) s = .next (t.answered l k.code a) := by
  rw [exec_command, request_reached h hf]
  simp only [dispatch, Kind.ofCode_code, hallowed, if_true, howner]

/-- An owner that leaves the state and answers with a result alone: beside the port nothing changes. -/
theorem exec_repliedOnly (k : Kind) {s : State} {l : Line} {fields : List Byte} {r : Result} (h : s.Reached l)
    (hf : fields.length ≤ 59) (hallowed : k.allowed l = true)
    (howner : ownerTakes k l fields (s.addressed l false) = (s.addressed l false, .plain r)) :
    exec (k.command l false fields) s = .next (s.repliedOnly l k.code r) :=
  exec_reached k h hf hallowed howner

/-- A listed kind on a line that may not send it. -/
theorem exec_refusedLine (k : Kind) {s : State} {l : Line} {fields : List Byte} (h : s.Reached l)
    (hf : fields.length ≤ 59) (hallowed : k.allowed l = false) :
    exec (k.command l false fields) s = .next (s.repliedOnly l k.code .refusedLine) := by
  rw [exec_command, request_reached h hf]
  simp only [dispatch, Kind.ofCode_code, hallowed]
  rfl

/-- A broadcast acts as its owner or as none, and leaves the port in LISTEN. -/
theorem exec_broadcast (k : Kind) {s t : State} {l : Line} {fields : List Byte} (h : s.Hears l)
    (hf : fields.length ≤ 59) (howner : dispatchBroadcast l k.code fields (s.addressed l true) = t) :
    exec (k.command l true fields) s = .next (t.listening l) := by
  rw [exec_command, request_broadcast h hf, howner]

/-! ### The sections of a DRAFT PUT -/

theorem putGeneral_eq_some {d e : Plan} {body : List Byte} : putGeneral d body = some e ↔
    ∃ g : General, g.inRange = true ∧ body = g.bytes ∧ e = { d with general := g } := by
  simp only [putGeneral, Option.map_eq_some_iff, General.parse_eq_some, and_assoc, eq_comm (a := e)]

/-- A portal selector is its code, in one character. -/
theorem portalOfCode_toNat {b : Byte} {p : Portal} : portalOfCode b.toNat = some p ↔ b = if p = .a then 0 else 1 := by
  rw [portalOfCode_eq_some, BitVec.toNat_eq]
  cases p <;> rfl

theorem putPortal_eq_some {d e : Plan} {body : List Byte} : putPortal d body = some e ↔
    ∃ (p : Portal) (r : PortalRecord), r.inRange = true ∧ body = (if p = .a then 0 else 1) :: r.bytes
      ∧ e = { d with portals := d.portals.set p r } := by
  unfold putPortal
  constructor
  · intro h
    split at h
    · exact absurd h (by simp)
    · split at h
      · rename_i p r hp hr
        obtain ⟨hrange, rfl⟩ := PortalRecord.parse_eq_some.1 hr
        exact ⟨p, r, hrange, by rw [portalOfCode_toNat.1 hp], by simpa using h.symm⟩
      · exact absurd h (by simp)
  · rintro ⟨p, r, hrange, rfl, rfl⟩
    simp only [portalOfCode_toNat.2 (rfl : (if p = .a then 0 else 1 : Byte) = _), PortalRecord.parse_bytes hrange]

theorem putCurve_eq_some {d e : Plan} {body : List Byte} : putCurve d body = some e ↔
    ∃ (p : Portal) (c : List Breakpoint), curveInRange c = true ∧ body = (if p = .a then 0 else 1) :: curveBytes c
      ∧ e = { d with curves := d.curves.set p c } := by
  unfold putCurve
  constructor
  · intro h
    split at h
    · exact absurd h (by simp)
    · split at h
      · rename_i p c hp hc
        obtain ⟨hrange, rfl⟩ := parseCurve_eq_some.1 hc
        exact ⟨p, c, hrange, by rw [portalOfCode_toNat.1 hp], by simpa using h.symm⟩
      · exact absurd h (by simp)
  · rintro ⟨p, c, hrange, rfl, rfl⟩
    simp only [portalOfCode_toNat.2 (rfl : (if p = .a then 0 else 1 : Byte) = _), parseCurve_eq_some.2 ⟨hrange, rfl⟩]

/-- One element in place of one is the list with that element set. -/
theorem splice_singleton {α : Type} {l : List α} {i : Nat} (h : i < l.length) (x : α) : splice l i [x] = l.set i x := by
  rw [List.set_eq_take_append_cons_drop, if_pos h]
  simp [splice]

theorem putZone_eq_some {d e : Plan} {body : List Byte} (hzones : d.zones.length = 12) : putZone d body = some e ↔
    ∃ (z : Nat) (r : ZoneRecord), z ≤ 11 ∧ r.inRange = true ∧ body = u8 z :: r.bytes
      ∧ e = { d with zones := d.zones.set z r } := by
  unfold putZone
  constructor
  · intro h
    split at h
    · exact absurd h (by simp)
    · rename_i z record
      split at h
      · exact absurd h (by simp)
      · rename_i hz
        obtain ⟨r, hr, rfl⟩ := Option.map_eq_some_iff.1 h
        obtain ⟨hrange, rfl⟩ := ZoneRecord.parse_eq_some.1 hr
        exact ⟨z.toNat, r, by omega, hrange, by simp, by rw [splice_singleton (by omega)]⟩
  · rintro ⟨z, r, hz, hrange, rfl, rfl⟩
    have hu : (u8 z).toNat = z := u8_toNat_of_lt (by omega)
    simp only [hu, if_neg (Nat.not_lt.2 hz), ZoneRecord.parse_bytes hrange, Option.map_some]
    rw [splice_singleton (by omega)]

theorem putChannels_eq_some {d e : Plan} {body : List Byte} : putChannels d body = some e ↔
    ∃ (first : Nat) (rs : List ChannelRecord), 1 ≤ rs.length ∧ rs.length ≤ 8 ∧ first + rs.length ≤ 32
      ∧ (∀ r ∈ rs, r.inRange = true) ∧ body = u8 first :: u8 rs.length :: rs.flatMap ChannelRecord.bytes
      ∧ e = { d with channels := d.channels.take first ++ rs ++ d.channels.drop (first + rs.length) } := by
  have hrecords := fun {n : Nat} {rest : List Byte} {rs : List ChannelRecord} (hl : rest.length = 7 * n) =>
    allSome_chunks_eq_some (xs := rs) (fun l x => ChannelRecord.parse_eq_some (l := l) (r := x))
      ChannelRecord.bytes_length hl
  unfold putChannels
  constructor
  · intro h
    split at h
    · rename_i first count records
      split at h
      · rename_i hc
        obtain ⟨hfirst, hlow, hhigh, hend, hrest⟩ := hc
        obtain ⟨rs, hrs, rfl⟩ := Option.map_eq_some_iff.1 h
        obtain ⟨hlen, hok, rfl⟩ := (hrecords hrest).1 hrs
        exact ⟨first.toNat, rs, by omega, by omega, by omega, hok, by simp [hlen], rfl⟩
      · exact absurd h (by simp)
    · exact absurd h (by simp)
  · rintro ⟨first, rs, hlow, hhigh, hend, hok, rfl, rfl⟩
    have hfirst : (u8 first).toNat = first := u8_toNat_of_lt (by omega)
    have hcount : (u8 rs.length).toNat = rs.length := u8_toNat_of_lt (by omega)
    have hlen := flatMap_length_of_width ChannelRecord.bytes_length rs
    simp only [hfirst, hcount]
    rw [if_pos ⟨by omega, hlow, hhigh, hend, hlen⟩, (hrecords hlen).2 ⟨rfl, hok, rfl⟩]
    rfl

theorem putSection_unlisted {d : Plan} {sec : Byte} {body : List Byte} (h : 4 < sec.toNat) :
    putSection d (sec :: body) = none := by
  simp only [putSection]
  split
  case h_6 => rfl
  all_goals omega

/-- A put that passes has one of the five listed sections. -/
theorem putSection_cases {d e : Plan} {fields : List Byte} (h : putSection d fields = some e) :
    ∃ body, putGeneral d body = some e ∨ putPortal d body = some e ∨ putCurve d body = some e ∨ putZone d body = some e
      ∨ putChannels d body = some e := by
  unfold putSection at h
  split at h
  · exact absurd h (by simp)
  · rename_i sec body
    refine ⟨body, ?_⟩
    split at h <;> simp_all

/-- Settles O19: the put at its owner, each section through the record its body is the characters of, and the ranges. -/
theorem draftPutReplacesWholeRecords : Obligations.DraftPutReplacesWholeRecords := by
  unfold Obligations.DraftPutReplacesWholeRecords
  refine ⟨fun s fields h hf => ⟨fun d hd => ?taken, fun hnone => ?refused⟩, fun d e body => putGeneral_eq_some,
    fun d e body => putPortal_eq_some, fun d e body => putCurve_eq_some, fun d e body hz => putZone_eq_some hz,
    fun d e body => putChannels_eq_some, fun d sec body h => putSection_unlisted h, fun d => rfl, General.inRange_iff,
    PortalRecord.inRange_iff, curveInRange_iff, ZoneRecord.inRange_iff, ChannelRecord.inRange_iff⟩
  case taken => exact exec_reached .draftPut h hf rfl (by simp [ownerTakes, takeDraftPut, hd])
  case refused => exact exec_repliedOnly .draftPut h hf rfl (by simp [ownerTakes, takeDraftPut, hnone])

/-! ### The characters of the records -/

theorem be16_toNat {n : Nat} (h : n < 65536) : (be16 n).map BitVec.toNat = [n / 256, n % 256] := by
  simp [be16, Nat.mod_eq_of_lt (show n / 256 < 256 by omega)]

theorem be24_toNat {n : Nat} (h : n < 16777216) :
    (be24 n).map BitVec.toNat = [n / 65536, n / 256 % 256, n % 256] := by
  simp [be24, Nat.mod_eq_of_lt (show n / 65536 < 256 by omega)]

theorem General.bytes_toNat {g : General} (h : g.inRange = true) :
    g.bytes.map BitVec.toNat =
      [g.passPeriod, g.pwmPeriod / 256, g.pwmPeriod % 256, g.repetition, g.initialDirection.code,
        g.dayLevel / 256, g.dayLevel % 256, g.nightLevel / 256, g.nightLevel % 256,
        g.nightThreshold / 256, g.nightThreshold % 256, g.nightBand / 256, g.nightBand % 256,
        g.closedLevel / 256, g.closedLevel % 256, g.fireLevel / 256, g.fireLevel % 256,
        g.backupCap / 256, g.backupCap % 256, g.confirmCount, if g.autoResume = true then 1 else 0] := by
  obtain ⟨h1, h2, h3, h4, h5, h6, h7, h8, h9, h10, h11, h12, h13, h14, h15⟩ := g.inRange_iff.1 h
  simp only [General.bytes, List.map_append, List.map_cons, List.map_nil, List.cons_append, List.nil_append,
    be16_toNat (show g.pwmPeriod < 65536 by omega), be16_toNat (show g.dayLevel < 65536 by omega),
    be16_toNat (show g.nightLevel < 65536 by omega), be16_toNat (show g.nightThreshold < 65536 by omega),
    be16_toNat (show g.nightBand < 65536 by omega), be16_toNat (show g.closedLevel < 65536 by omega),
    be16_toNat (show g.fireLevel < 65536 by omega), be16_toNat (show g.backupCap < 65536 by omega),
    u8_toNat_of_lt (show g.passPeriod < 256 by omega), u8_toNat_of_lt (show g.repetition < 256 by omega),
    u8_toNat_of_lt (show g.confirmCount < 256 by omega), u8_toNat_of_lt (Direction.code_lt _),
    u8_toNat_of_lt (switchCode_lt _)]
  rfl

theorem PortalRecord.bytes_toNat {r : PortalRecord} (h : r.inRange = true) :
    r.bytes.map BitVec.toNat =
      [r.mode.code, r.defaultLum / 256, r.defaultLum % 256, r.sampleLife / 256, r.sampleLife % 256,
        r.holdTime / 256, r.holdTime % 256, r.constS / 65536, r.constS / 256 % 256, r.constS % 256, r.constN,
        r.interval] := by
  obtain ⟨h1, h2, h3, h4, h5, h6, h7, h8⟩ := r.inRange_iff.1 h
  have hn : r.constN < 256 := by
    simp only [List.mem_cons, List.not_mem_nil, or_false] at h6
    omega
  simp only [PortalRecord.bytes, List.map_append, List.map_cons, List.map_nil, List.cons_append, List.nil_append,
    be16_toNat (show r.defaultLum < 65536 by omega), be16_toNat (show r.sampleLife < 65536 by omega),
    be16_toNat (show r.holdTime < 65536 by omega), be24_toNat (show r.constS < 16777216 by omega),
    u8_toNat_of_lt hn, u8_toNat_of_lt (show r.interval < 256 by omega), u8_toNat_of_lt (SourceMode.code_lt _)]

theorem curveBytes_toNat {c : List Breakpoint} (h : curveInRange c = true) :
    (curveBytes c).map BitVec.toNat =
      c.length :: c.flatMap fun b => [b.lum / 256, b.lum % 256, b.demand / 256, b.demand % 256] := by
  obtain ⟨-, hlen, hb⟩ := (curveInRange_iff c).1 h
  rw [curveBytes, List.map_cons, u8_toNat_of_lt (by omega), List.map_flatMap]
  congr 1
  refine List.flatMap_congr fun b hmem => ?_
  obtain ⟨hlum, hdemand⟩ := hb b hmem
  rw [Breakpoint.bytes, List.map_append, be16_toNat (by omega), be16_toNat (by omega)]
  rfl

theorem ZoneRecord.bytes_toNat {r : ZoneRecord} (h : r.inRange = true) :
    r.bytes.map BitVec.toNat =
      [r.kind.code, zonePortalCode r.portal,
        r.factor / 256, r.factor % 256, r.floor / 256, r.floor % 256, r.ceiling / 256, r.ceiling % 256,
        r.rise / 256, r.rise % 256, r.fall / 256, r.fall % 256, if r.compensation = true then 1 else 0] := by
  obtain ⟨h1, h2, h3, h4, h5, h6, h7⟩ := r.inRange_iff.1 h
  simp only [ZoneRecord.bytes, List.map_append, List.map_cons, List.map_nil, List.cons_append, List.nil_append,
    be16_toNat (show r.factor < 65536 by omega), be16_toNat (show r.floor < 65536 by omega),
    be16_toNat (show r.ceiling < 65536 by omega), be16_toNat (show r.rise < 65536 by omega),
    be16_toNat (show r.fall < 65536 by omega), u8_toNat_of_lt (ZoneKind.code_lt _),
    u8_toNat_of_lt (zonePortalCode_lt _), u8_toNat_of_lt (switchCode_lt _)]
  rfl

theorem ChannelRecord.bytes_toNat {r : ChannelRecord} (h : r.inRange = true) :
    r.bytes.map BitVec.toNat =
      [r.zone.getD 255, r.codeNumber, r.cutoff % 256, r.lo / 256, r.lo % 256, r.hi / 256, r.hi % 256] := by
  obtain ⟨hzone, hcutoff, hlo, hmid, hhi⟩ := r.inRange_iff.1 h
  have hz := channelZoneCode_lt (zoneFieldInRange_iff.2 hzone)
  have hk := (ChannelRecord.codeNumber_bits (r := r) (by omega)).1
  have hcode : channelZoneCode r.zone = r.zone.getD 255 := by cases r.zone <;> rfl
  rw [hcode] at hz
  simp only [ChannelRecord.bytes, List.map_append, List.map_cons, List.cons_append, List.nil_append,
    ChannelRecord.codeByte_eq, u8_toNat_of_lt hz, u8_toNat_of_lt hk, u8_toNat r.cutoff, hcode,
    be16_toNat (show r.lo < 65536 by omega), be16_toNat (show r.hi < 65536 by omega)]

/-- Settles O20: every record of a plan in range is its characters, both ways. -/
theorem recordsSurviveTheWire : Obligations.RecordsSurviveTheWire := by
  unfold Obligations.RecordsSurviveTheWire
  refine ⟨fun g h => ⟨General.parse_bytes h, General.bytes_toNat h⟩,
    fun r h => ⟨PortalRecord.parse_bytes h, PortalRecord.bytes_toNat h⟩,
    fun c h => ⟨parseCurve_eq_some.2 ⟨h, rfl⟩, curveBytes_toNat h⟩,
    fun r h => ⟨ZoneRecord.parse_bytes h, ?zone⟩, fun r h => ⟨ChannelRecord.parse_bytes h, ChannelRecord.bytes_toNat h⟩,
    fun l r h => (ChannelRecord.bytes_of_parse h).2, rfl, rfl, rfl⟩
  case zone =>
    rw [ZoneRecord.bytes_toNat h]
    rcases r.portal with _ | _ | _ <;> rfl

end Sys2Proof.Machine
end

section
/-! PROOFS. Every step keeps both plans in range and the running plan valid (R44, R52). -/

namespace Sys2Proof.Machine

/-! ### What one clock leaves -/

@[simp] theorem State.clock_plans (s : State) : s.clock.plans = s.plans := by
  unfold State.clock; split <;> rfl

@[simp] theorem State.clock_straps (s : State) : s.clock.straps = s.straps := by
  unfold State.clock; split <;> rfl

@[simp] theorem State.clock_pins (s : State) : s.clock.pins = s.pins := by
  unfold State.clock; split <;> rfl

@[simp] theorem State.clock_faults (s : State) : s.clock.faults = s.faults := by
  unfold State.clock; split <;> rfl

/-! ### Plans from outside: a put, an image -/

/-- A put keeps a draft in range: it replaces records by records in range. -/
theorem putSection_inRange {d e : Plan} {fields : List Byte} (hd : d.inRange = true)
    (h : putSection d fields = some e) : e.inRange = true := by
  obtain ⟨hgeneral, hportals, hcurves, hzlen, hzones, hclen, hchannels⟩ := (Plan.inRange_iff d).1 hd
  obtain ⟨body, h | h | h | h | h⟩ := putSection_cases h
  · obtain ⟨g, hg, -, rfl⟩ := putGeneral_eq_some.1 h
    exact (Plan.inRange_iff _).2 ⟨hg, hportals, hcurves, hzlen, hzones, hclen, hchannels⟩
  · obtain ⟨p, r, hr, -, rfl⟩ := putPortal_eq_some.1 h
    refine (Plan.inRange_iff _).2 ⟨hgeneral, fun x => ?_, hcurves, hzlen, hzones, hclen, hchannels⟩
    rw [PerPortal.get_set]
    split
    · exact hr
    · exact hportals x
  · obtain ⟨p, c, hc, -, rfl⟩ := putCurve_eq_some.1 h
    refine (Plan.inRange_iff _).2 ⟨hgeneral, hportals, fun x => ?_, hzlen, hzones, hclen, hchannels⟩
    rw [PerPortal.get_set]
    split
    · exact hc
    · exact hcurves x
  · obtain ⟨z, r, -, hr, -, rfl⟩ := (putZone_eq_some hzlen).1 h
    refine (Plan.inRange_iff _).2 ⟨hgeneral, hportals, hcurves, by simpa using hzlen, fun x hx => ?_, hclen, hchannels⟩
    rcases List.mem_or_eq_of_mem_set hx with hx | rfl
    · exact hzones x hx
    · exact hr
  · obtain ⟨first, rs, -, -, hend, hrs, -, rfl⟩ := putChannels_eq_some.1 h
    refine (Plan.inRange_iff _).2 ⟨hgeneral, hportals, hcurves, hzlen, hzones, ?_, fun x hx => ?_⟩
    · simp only [List.length_append, List.length_take, List.length_drop, hclen]
      omega
    · rcases List.mem_append.1 hx with hx | hx
      · rcases List.mem_append.1 hx with hx | hx
        · exact hchannels x (List.mem_of_mem_take hx)
        · exact hrs x hx
      · exact hchannels x (List.mem_of_mem_drop hx)

/-- The values of a list of parses: as many as the pieces, each of a piece. -/
theorem allSome_map_eq_some {α : Type} {f : List Byte → Option α} {cs : List (List Byte)} {xs : List α}
    (h : allSome (cs.map f) = some xs) : xs.length = cs.length ∧ ∀ x ∈ xs, ∃ c ∈ cs, f c = some x := by
  rw [allSome_eq_some] at h
  refine ⟨by simpa using (congrArg List.length h).symm, fun x hx => ?_⟩
  exact List.mem_map.1 (h ▸ List.mem_map_of_mem hx)

theorem ZoneRecord.inRange_of_unpack {l : List Byte} {r : ZoneRecord} (h : ZoneRecord.unpack l = some r) :
    r.inRange = true := by
  unfold ZoneRecord.unpack at h
  split at h
  · exact (ZoneRecord.parse_eq_some.1 h).1
  · exact absurd h (by simp)

theorem unpackPlan_inRange {l : List Byte} {p : Plan} (h : unpackPlan l = some p) : p.inRange = true := by
  unfold unpackPlan at h
  split at h
  · rename_i g a b ca cb zs cs hg ha hb hca hcb hzs hcs
    obtain rfl := Option.some.inj h
    obtain ⟨hzlen, hzones⟩ := allSome_map_eq_some hzs
    obtain ⟨hclen, hchannels⟩ := allSome_map_eq_some hcs
    refine (Plan.inRange_iff _).2 ⟨(General.parse_eq_some.1 hg).1, ?_, ?_, by simpa using hzlen, fun r hr => ?_,
      by simpa using hclen, fun r hr => ?_⟩
    · rintro (_ | _)
      exacts [(PortalRecord.parse_eq_some.1 ha).1, (PortalRecord.parse_eq_some.1 hb).1]
    · rintro (_ | _)
      exacts [(parseCurve_eq_some.1 hca).1, (parseCurve_eq_some.1 hcb).1]
    · obtain ⟨_, -, hc⟩ := hzones r hr
      exact ZoneRecord.inRange_of_unpack hc
    · obtain ⟨_, -, hc⟩ := hchannels r hr
      exact (ChannelRecord.parse_eq_some.1 hc).1
  · exact absurd h (by simp)

theorem storedPlan_sound {image : List Byte} {p : Plan} (h : storedPlan image = some p) :
    p.inRange = true ∧ p.valid = true := by
  unfold storedPlan at h
  split at h
  · obtain ⟨hp, hv⟩ := Option.filter_eq_some_iff.1 h
    exact ⟨unpackPlan_inRange hp, hv⟩
  · exact absurd h (by simp)

theorem builtInPlan_sound : builtInPlan.inRange = true ∧ builtInPlan.valid = true := by decide

/-- Start-up takes one plan as running plan and draft, in range and valid. -/
theorem startUpPlan_cases (image : List Byte) :
    ∃ p src, startUpPlan image = PlanMemory.loaded p src ∧ p.inRange = true ∧ p.valid = true := by
  unfold startUpPlan
  split
  · exact ⟨_, _, rfl, storedPlan_sound ‹_›⟩
  · exact ⟨_, _, rfl, builtInPlan_sound⟩

/-! ### The invariant -/

theorem Effect.keeps_plansSound {s t : State} (he : Effect s t) (h : PlansSound s) : PlansSound t := by
  obtain ⟨hrunning, hvalid, hdraft⟩ := h
  cases he with
  | draftLoad => exact ⟨hrunning, hvalid, hrunning⟩
  | draftPut fields d put => exact ⟨hrunning, hvalid, putSection_inRange hdraft put⟩
  | adopt valid => exact ⟨hdraft, valid, hdraft⟩
  | held m => exact ⟨builtInPlan_sound.1, builtInPlan_sound.2, builtInPlan_sound.1⟩
  | startUp address rate =>
    obtain ⟨p, src, hp, hrange, hv⟩ := startUpPlan_cases s.store.image
    have hplans : (s.startUp address rate).plans = PlanMemory.loaded p src := hp
    unfold PlansSound
    rw [hplans]
    exact ⟨hrange, hv, hrange⟩
  | clock =>
    unfold PlansSound
    rw [State.clock_plans]
    exact ⟨hrunning, hvalid, hdraft⟩
  | _ => exact ⟨hrunning, hvalid, hdraft⟩

/-- Settles O53: plans change by DRAFT LOAD, DRAFT PUT, ADOPT, a reset and a start-up alone. -/
theorem everyStepKeepsPlansSound : Obligations.EveryStepKeepsPlansSound := by
  unfold Obligations.EveryStepKeepsPlansSound
  exact fun s t hs h => step_keeps Effect.keeps_plansSound h hs

end Sys2Proof.Machine
end

section
/-! PROOFS. The portal units (01_portal_luminance): what a tick and a report do, and the two invariants of the units. -/

namespace Sys2Proof.Machine

/-! ### A tick in its three cases (R1, R13, R14, R22) -/

/-- The samples that are not older than the sample life at the next tick (R13). -/
def PortalUnit.agedWindow (r : PortalRecord) (u : PortalUnit) : List Sample :=
  u.window.dropWhile fun x => 10 * r.sampleLife < (u.timeBase + 1 - x.arrival).toNat

/-- The station mark, if it is not older than the sample life at the next tick (R13). -/
def PortalUnit.agedMark (r : PortalRecord) (u : PortalUnit) : Option (BitVec 24) :=
  u.mark.filter fun m => !(decide (10 * r.sampleLife < (u.timeBase + 1 - m).toNat))

/-- The unit at the next tick before its window is looked at: time base, working copies, mark. -/
def PortalUnit.renewed (r : PortalRecord) (u : PortalUnit) : PortalUnit :=
  { u with
    timeBase := u.timeBase + 1, tickPhase := 0, life := r.sampleLife, holdTime := r.holdTime, defaultLum := r.defaultLum
    mark := u.agedMark r }

/-- A window run dry is derived already. -/
theorem PortalUnit.runDry_mark_derive (u : PortalUnit) (m : Option (BitVec 24)) :
    ({ u.runDry with mark := m }).derive = ({ u with mark := m }).runDry := by
  rcases u.runDry_cases with ⟨h, he⟩ | ⟨h, he⟩ <;> rw [he]
  · simp [PortalUnit.runDry, h]; rfl
  · simp [PortalUnit.runDry, Nat.pos_iff_ne_zero.1 h]; rfl

theorem PortalUnit.runDry_frame (u : PortalUnit) : u.runDry.window = [] ∧ u.runDry.mark = u.mark := by
  rcases u.runDry_cases with ⟨-, he⟩ | ⟨-, he⟩ <;> rw [he] <;> exact ⟨rfl, rfl⟩

theorem PortalUnit.keep_mark (u : PortalUnit) (w : List Sample) : (u.keep w).mark = u.mark := by
  rcases u.keep_cases w with ⟨-, he⟩ | ⟨-, -, he⟩ | ⟨-, -, he⟩ <;> rw [he]
  · exact u.runDry_frame.2
  · rfl

/-- The age check of a tick, with its two ages as they stand after the advance. -/
theorem PortalUnit.advance_ageCheck (r : PortalRecord) (u : PortalUnit) :
    u.advance.ageCheck r =
      ({ (u.advance.takeCopies r).keep (u.agedWindow r) with mark := u.agedMark r }).derive := by
  have hmark := (u.advance.takeCopies r).keep_mark (u.agedWindow r)
  have h : u.advance.ageCheck r =
      ({ (u.advance.takeCopies r).keep (u.agedWindow r) with
        mark := ((u.advance.takeCopies r).keep (u.agedWindow r)).mark.filter
          fun t => !(u.advance.takeCopies r).tooOld t }).derive := rfl
  rw [h, hmark]
  rfl

theorem PortalUnit.tick_of_empty {r : PortalRecord} {u : PortalUnit} (h : u.window = []) :
    u.tick r = (u.renewed r).derive.countDown := by
  have hkeep : (u.advance.takeCopies r).keep (u.agedWindow r) = u.advance.takeCopies r := by
    simp [keep, advance, takeCopies, h]
  have hcheck : u.advance.ageCheck r = (u.renewed r).derive := by
    rw [advance_ageCheck, hkeep]
    rfl
  simp [tick, hcheck, h]

theorem PortalUnit.tick_of_ranDry {r : PortalRecord} {u : PortalUnit} (h : u.window ≠ []) (h' : u.agedWindow r = []) :
    u.tick r = (u.renewed r).runDry := by
  have hkeep : (u.advance.takeCopies r).keep (u.agedWindow r) = (u.advance.takeCopies r).runDry := by
    simp [keep, advance, takeCopies, h, h']
  have hcheck : u.advance.ageCheck r = (u.renewed r).runDry := by
    rw [advance_ageCheck, hkeep, runDry_mark_derive]
    rfl
  simp [tick, hcheck, h, (u.renewed r).runDry_frame.1]

theorem PortalUnit.tick_of_samples {r : PortalRecord} {u : PortalUnit} (h : u.agedWindow r ≠ []) :
    u.tick r = ({ u.renewed r with window := u.agedWindow r }).derive.countDown := by
  have hne : u.window ≠ [] := fun h0 => h (by simp [agedWindow, h0])
  have hkeep : (u.advance.takeCopies r).keep (u.agedWindow r) =
      ({ u.advance.takeCopies r with window := u.agedWindow r }).derive := by
    simp [keep, advance, takeCopies, h, hne]
  have hcheck : u.advance.ageCheck r = ({ u.renewed r with window := u.agedWindow r }).derive := by
    rw [advance_ageCheck, hkeep]
    rfl
  have hwindow : (({ u.renewed r with window := u.agedWindow r }).derive).window = u.agedWindow r := rfl
  simp [tick, hcheck, hwindow, h]

/-- Every tick is one of the three. -/
theorem PortalUnit.tick_cases (r : PortalRecord) (u : PortalUnit) :
    (u.window = [] ∧ u.agedWindow r = [] ∧ u.tick r = (u.renewed r).derive.countDown)
      ∨ (u.window ≠ [] ∧ u.agedWindow r = [] ∧ u.tick r = (u.renewed r).runDry)
      ∨ (u.window ≠ [] ∧ u.agedWindow r ≠ []
          ∧ u.tick r = ({ u.renewed r with window := u.agedWindow r }).derive.countDown) := by
  by_cases hw : u.window = []
  · exact .inl ⟨hw, by simp [PortalUnit.agedWindow, hw], tick_of_empty hw⟩
  · by_cases ha : u.agedWindow r = []
    · exact .inr (.inl ⟨hw, ha, tick_of_ranDry hw ha⟩)
    · exact .inr (.inr ⟨hw, ha, tick_of_samples ha⟩)

/-- What a tick sets in every unit, and what it leaves. -/
theorem PortalUnit.tick_frame (r : PortalRecord) (u : PortalUnit) :
    u.tick r =
      { u.renewed r with
        window := u.agedWindow r, state := (u.tick r).state, effLum := (u.tick r).effLum
        heldLum := (u.tick r).heldLum, holdTimer := (u.tick r).holdTimer } := by
  have hcount : ∀ v : PortalUnit,
      v.countDown =
        { v with state := v.countDown.state, effLum := v.countDown.effLum, holdTimer := v.countDown.holdTimer } := by
    intro v
    rcases v.countDown_cases with ⟨-, he⟩ | ⟨c, -, -, he⟩ | ⟨c, -, -, he⟩ <;> rw [he]
  rcases u.tick_cases r with ⟨hw, ha, he⟩ | ⟨-, ha, he⟩ | ⟨-, -, he⟩ <;> rw [he]
  · rw [hcount, ha, ← hw]
    rfl
  · rw [ha]
    rcases (u.renewed r).runDry_cases with ⟨-, hd⟩ | ⟨-, hd⟩ <;> rw [hd]
  · rw [hcount]
    rfl

/-! ### A tick of a sound unit -/

theorem UnitSound.timer_none {u : PortalUnit} (h : UnitSound u) (hs : u.state ≠ .hold) : u.holdTimer = none := by
  cases ht : u.holdTimer with
  | none => rfl
  | some c => exact absurd (h.2.2.1 (by simp [ht])) hs

theorem UnitSound.live {u : PortalUnit} (h : UnitSound u) (hw : u.window ≠ []) : u.state = .live := h.2.1.2 hw

theorem UnitSound.hold {u : PortalUnit} (h : UnitSound u) {c : Nat} (ht : u.holdTimer = some c) : u.state = .hold :=
  h.2.2.1 (by simp [ht])

theorem UnitSound.empty {u : PortalUnit} (h : UnitSound u) (hs : u.state ≠ .live) : u.window = [] := by
  by_contra hw
  exact hs (h.live hw)

/-- Where samples remain the portal stays LIVE on their median. -/
theorem PortalUnit.tick_live {r : PortalRecord} {u : PortalUnit} (h : UnitSound u) (ha : u.agedWindow r ≠ []) :
    u.tick r =
      { u.renewed r with window := u.agedWindow r, effLum := windowMedian (u.agedWindow r) } := by
  have hw : u.window ≠ [] := fun h0 => ha (by simp [agedWindow, h0])
  have hlive := h.live hw
  have htimer := h.timer_none (by simp [hlive])
  rw [tick_of_samples ha]
  simp [countDown, derive, figure, renewed, htimer, hlive]

/-- An empty unit without a running timer takes the new default luminance. -/
theorem PortalUnit.tick_idle {r : PortalRecord} {u : PortalUnit} (h : UnitSound u)
    (hs : u.state = .noData ∨ u.state = .fallback) : u.tick r = { u.renewed r with effLum := r.defaultLum } := by
  have hw : u.window = [] := h.empty (by rcases hs with hs | hs <;> simp [hs])
  have htimer : u.holdTimer = none := h.timer_none (by rcases hs with hs | hs <;> simp [hs])
  rw [tick_of_empty hw]
  rcases hs with hs | hs <;> simp [countDown, derive, figure, renewed, htimer, hs]

/-- In HOLD a tick takes one from the timer, and the last one ends in DEFAULT. -/
theorem PortalUnit.tick_hold {r : PortalRecord} {u : PortalUnit} (h : UnitSound u) {c : Nat}
    (ht : u.holdTimer = some c) :
    u.tick r =
      if c ≤ 1 then { u.renewed r with holdTimer := none, state := .fallback, effLum := r.defaultLum }
      else { u.renewed r with holdTimer := some (c - 1), effLum := u.heldLum } := by
  have hhold := h.hold ht
  have hw : u.window = [] := h.empty (by simp [hhold])
  rw [tick_of_empty hw]
  by_cases hc : c ≤ 1 <;> simp [countDown, derive, figure, renewed, ht, hhold, hc]

theorem PortalUnit.agedWindow_length_le (r : PortalRecord) (u : PortalUnit) :
    (u.agedWindow r).length ≤ u.window.length := (List.dropWhile_sublist _).length_le

theorem PortalUnit.runDry_sound (u : PortalUnit) : UnitSound u.runDry := by
  rcases u.runDry_cases with ⟨-, he⟩ | ⟨-, he⟩ <;> rw [he] <;> simp [UnitSound]

theorem PortalUnit.tick_sound (r : PortalRecord) {u : PortalUnit} (h : UnitSound u) : UnitSound (u.tick r) := by
  by_cases ha : u.agedWindow r = []
  · by_cases hw : u.window = []
    · cases ht : u.holdTimer with
      | some c =>
        have hhold := h.hold ht
        rw [tick_hold h ht]
        split <;> simp [UnitSound, renewed, hw, hhold]
      | none =>
        have hs : u.state = .noData ∨ u.state = .fallback := by
          obtain ⟨-, hlive, htimer⟩ := h
          cases hstate : u.state <;> simp_all
        have := h
        rw [tick_idle h hs]
        simpa [UnitSound, renewed] using this
    · rw [tick_of_ranDry hw ha]
      exact runDry_sound _
  · have hw : u.window ≠ [] := fun h0 => ha (by simp [agedWindow, h0])
    have hlive := h.live hw
    have htimer := h.timer_none (by simp [hlive])
    have hle := agedWindow_length_le r u
    rw [tick_live h ha]
    exact ⟨hle.trans h.1, by simp [renewed, hlive, ha], by simp [renewed, hlive, htimer]⟩

/-! ### TICK and HOLD TIMER EXPIRY -/

theorem exec_tick {s : State} (p : Portal) (h : s.started = true) :
    exec (.tick p) s = .next (s.setPortal p ((s.portals.get p).tick (s.plans.running.portals.get p))) :=
  congrArg Host.Outcome.next (if_pos h)

/-- A window run dry at a tick: the hold, or DEFAULT at once. -/
theorem PortalUnit.tick_ranDry_fields {r : PortalRecord} {u : PortalUnit} (hw : u.window ≠ [])
    (ha : u.agedWindow r = []) :
    (u.tick r).heldLum = u.effLum
      ∧ (0 < r.holdTime →
          (u.tick r).state = .hold ∧ (u.tick r).holdTimer = some (10 * r.holdTime) ∧ (u.tick r).effLum = u.effLum)
      ∧ (r.holdTime = 0 →
          (u.tick r).state = .fallback ∧ (u.tick r).holdTimer = none ∧ (u.tick r).effLum = r.defaultLum) := by
  have hcopy : (u.renewed r).holdTime = r.holdTime := rfl
  rw [tick_of_ranDry hw ha]
  rcases (u.renewed r).runDry_cases with ⟨h0, he⟩ | ⟨hpos, he⟩ <;> rw [hcopy] at * <;> rw [he]
  · exact ⟨rfl, fun h => by omega, fun _ => ⟨rfl, rfl, rfl⟩⟩
  · exact ⟨rfl, fun _ => ⟨rfl, rfl, rfl⟩, fun h => by omega⟩

/-- Settles O6: the fields that every tick sets, and the portal state by the three cases of the window. -/
theorem tickAgesTheWindow : Obligations.TickAgesTheWindow := by
  unfold Obligations.TickAgesTheWindow
  intro p s hs
  refine ⟨_, exec_tick p hs, ?_⟩
  generalize s.plans.running.portals.get p = r
  generalize s.portals.get p = u
  have hframe := u.tick_frame r
  have hbase : (u.tick r).timeBase = u.timeBase + 1 := by rw [hframe]; rfl
  have hwindow : (u.tick r).window = u.agedWindow r := by rw [hframe]
  have hmark : (u.tick r).mark = u.agedMark r := by rw [hframe]; rfl
  refine ⟨hbase, by rw [hframe]; rfl, by rw [hframe]; rfl, by rw [hframe]; rfl, by rw [hwindow, hbase]; rfl, fun m => ?mark,
    by rw [hframe]; rfl, by rw [hframe]; rfl, fun h => ⟨fun hne => ?live, fun hw hempty => ?ranDry, fun hidle => ?idle,
      fun c ht => ?hold⟩⟩
  case mark => simp [hmark, hbase, PortalUnit.agedMark, Option.filter_eq_some_iff]
  case live =>
    rw [hwindow] at hne ⊢
    have hlive := h.live fun h0 => hne (by simp [PortalUnit.agedWindow, h0])
    rw [PortalUnit.tick_live h hne]
    exact ⟨hlive, rfl, h.timer_none (by simp [hlive]), rfl⟩
  case ranDry => exact PortalUnit.tick_ranDry_fields hw (hwindow ▸ hempty)
  case idle =>
    rw [PortalUnit.tick_idle h hidle]
    exact ⟨rfl, h.timer_none (by rcases hidle with hs | hs <;> simp [hs]), rfl, rfl⟩
  case hold =>
    have hhold := h.hold ht
    rw [PortalUnit.tick_hold h ht]
    refine ⟨by split <;> rfl, fun hc => ?_, fun hc => ?_⟩
    · rw [if_neg (by omega)]
      exact ⟨hhold, rfl, rfl⟩
    · rw [if_pos hc]
      exact ⟨rfl, rfl, rfl⟩

/-- Settles O7: a LIVE portal has samples, and all of them age out. -/
theorem agedOutPortalHoldsItsFigure : Obligations.AgedOutPortalHoldsItsFigure := by
  unfold Obligations.AgedOutPortalHoldsItsFigure
  intro p s hs h hlive hold
  have hw : (s.portals.get p).window ≠ [] := h.2.1.1 hlive
  have ha : (s.portals.get p).agedWindow (s.plans.running.portals.get p) = [] := by
    simpa [PortalUnit.agedWindow, List.dropWhile_eq_nil_iff] using hold
  have hwindow : ((s.portals.get p).tick (s.plans.running.portals.get p)).window = [] := by
    rw [PortalUnit.tick_frame, ha]
  exact ⟨_, exec_tick p hs, hwindow, PortalUnit.tick_ranDry_fields hw ha⟩

/-- Short of its last tick a hold timer counts down in HOLD. -/
theorem PortalUnit.ticks_hold (r : PortalRecord) {u : PortalUnit} (h : UnitSound u) {c k : Nat}
    (ht : u.holdTimer = some c) (hk : k < c) :
    (u.ticks r k).state = .hold ∧ (u.ticks r k).holdTimer = some (c - k) := by
  induction k generalizing u c with
  | zero => exact ⟨h.hold ht, ht⟩
  | succ k ih =>
    have htick : (u.tick r).holdTimer = some (c - 1) := by rw [tick_hold h ht, if_neg (by omega)]
    have hnext := ih (tick_sound r h) htick (by omega)
    rwa [Nat.sub_sub, Nat.add_comm 1 k] at hnext

/-- The last tick of a hold timer ends in DEFAULT. -/
theorem PortalUnit.ticks_runOut (r : PortalRecord) {u : PortalUnit} (h : UnitSound u) {c : Nat}
    (ht : u.holdTimer = some c) (hc : 1 ≤ c) :
    (u.ticks r c).state = .fallback ∧ (u.ticks r c).holdTimer = none ∧ (u.ticks r c).window = []
      ∧ (u.ticks r c).timeBase = u.timeBase + BitVec.ofNat 24 c ∧ (u.ticks r c).effLum = r.defaultLum := by
  induction c, hc using Nat.le_induction generalizing u with
  | base =>
    have hw : u.window = [] := h.empty (by simp [h.hold ht])
    simp only [ticks, tick_hold h ht, le_refl, if_true]
    exact ⟨trivial, trivial, hw, rfl, trivial⟩
  | succ c hc ih =>
    have htick : u.tick r = { u.renewed r with holdTimer := some c, effLum := u.heldLum } := by
      rw [tick_hold h ht, if_neg (by omega)]
      rfl
    obtain ⟨hstate, htimer, hwindow, hbase, hlum⟩ := ih (tick_sound r h) (by rw [htick])
    refine ⟨hstate, htimer, hwindow, ?_, hlum⟩
    have hone : (u.tick r).timeBase = u.timeBase + 1 := by rw [htick]; rfl
    rw [ticks, hbase, hone, Nat.add_comm c 1, BitVec.ofNat_add, BitVec.add_assoc]
    rfl

/-- Settles O8: the timer's countdown by induction on its ticks. -/
theorem holdTimerRunsOutIntoDefault : Obligations.HoldTimerRunsOutIntoDefault := by
  unfold Obligations.HoldTimerRunsOutIntoDefault
  intro p s c hs h ht hc
  have hexec : exec (.holdTimerExpiry p) s =
      .next (s.setPortal p ((s.portals.get p).ticks (s.plans.running.portals.get p) c)) := by
    have hcount : (s.portals.get p).ticksToExpiry = c := by
      simp only [PortalUnit.ticksToExpiry, ht]
      omega
    rw [← hcount]
    exact congrArg Host.Outcome.next (if_pos hs)
  obtain ⟨hstate, htimer, hwindow, hbase, hlum⟩ := PortalUnit.ticks_runOut (s.plans.running.portals.get p) h ht hc
  exact ⟨_, hexec, rfl, hstate, htimer, hwindow, hbase, hlum, fun k hk => PortalUnit.ticks_hold _ h ht hk⟩

end Sys2Proof.Machine
end

section
/-! PROOFS. The reports of a station (R4 to R8, R187), and the two invariants of the portal units. -/

namespace Sys2Proof.Machine

/-! ### A report at its unit -/

theorem Line.ne_s_of_portal {l : Line} {p : Portal} (h : l.portal = some p) : l ≠ .s := by
  rintro rfl
  exact absurd h (by simp [Line.portal])

/-- The four figures of a portal whose unit has just been set. -/
theorem State.setPortal_portalFigures (s : State) (p : Portal) (u : PortalUnit) :
    (s.setPortal p u).portalFigures p =
      [u.state.code] ++ be16 u.effLum ++ be16 (curveLookup (s.plans.running.curves.get p) u.effLum)
        ++ [u8 u.window.length] := by
  simp [State.portalFigures, State.demand]

/-- A REPORT at the portal unit of its line, with the figures after it. -/
theorem takeReport_of_portal {l : Line} {p : Portal} (hl : l.portal = some p) (fields : List Byte) (s : State) :
    takeReport l fields s =
      (s.setPortal p ((s.portals.get p).report (s.plans.running.portals.get p).mode fields).1,
        ⟨((s.portals.get p).report (s.plans.running.portals.get p).mode fields).2,
          (s.setPortal p ((s.portals.get p).report (s.plans.running.portals.get p).mode fields).1).portalFigures p⟩) := by
  simp only [takeReport, hl]

/-- An addressed REPORT that reaches a portal unit. -/
theorem exec_report {s : State} {l : Line} {p : Portal} {fields : List Byte} {u : PortalUnit} {r : Result}
    (hl : l.portal = some p) (h : s.Reached l) (hf : fields.length ≤ 59)
    (hunit : (s.portals.get p).report (s.plans.running.portals.get p).mode fields = (u, r)) :
    exec (.report l false fields) s =
      .next (((s.addressed l false).setPortal p u).answered l 0x01
        ⟨r, [u.state.code] ++ be16 u.effLum ++ be16 (curveLookup (s.plans.running.curves.get p) u.effLum)
          ++ [u8 u.window.length]⟩) := by
  refine exec_reached .report h hf (by simp [Kind.allowed, Line.ne_s_of_portal hl]) ?_
  rw [ownerTakes, takeReport_of_portal hl, State.addressed_portals, State.addressed_plans, hunit,
    State.setPortal_portalFigures]
  rfl

/-- A report that leaves the unit as it is. -/
theorem exec_report_idle {s : State} {l : Line} {p : Portal} {fields : List Byte} {r : Result}
    (hl : l.portal = some p) (h : s.Reached l) (hf : fields.length ≤ 59)
    (hunit : (s.portals.get p).report (s.plans.running.portals.get p).mode fields = (s.portals.get p, r)) :
    exec (.report l false fields) s = .next ((s.addressed l false).answered l 0x01 ⟨r, s.portalFigures p⟩) := by
  rw [exec_report hl h hf hunit]
  have hself := State.setPortal_self (s.addressed l false) p
  rw [State.addressed_portals] at hself
  rw [hself]
  rfl

/-! ### Reports by their quality -/

/-- A report with one of the two usable qualities. -/
theorem PortalUnit.report_usable {u : PortalUnit} {mode : SourceMode} {h l q : Byte} {quality : Quality}
    (hq : (q = 0 ∧ quality = .good) ∨ (q = 1 ∧ quality = .degraded)) :
    u.report mode [h, l, q] = u.usableReport mode (nat16 h l) quality := by
  rcases hq with ⟨rfl, rfl⟩ | ⟨rfl, rfl⟩ <;> rfl

theorem PortalUnit.report_invalid (u : PortalUnit) (mode : SourceMode) (h l : Byte) :
    u.report mode [h, l, 2] = u.invalidReport := rfl

theorem PortalUnit.report_unlisted {u : PortalUnit} {mode : SourceMode} {h l q : Byte} (hq : 2 < q.toNat) :
    u.report mode [h, l, q] = (u, .badField) := by
  have hne : ∀ c : Byte, c.toNat ≤ 2 → q ≠ c := by
    rintro c hc rfl
    omega
  simp only [report, if_neg (hne 0 (by decide)), if_neg (hne 1 (by decide)), if_neg (hne 2 (by decide))]

theorem PortalUnit.report_wrongLength {u : PortalUnit} {mode : SourceMode} {fields : List Byte}
    (h : fields.length ≠ 3) : u.report mode fields = (u, .badField) := by
  unfold report
  split
  · exact absurd rfl h
  · rfl

/-- Settles O9: an entry at the unit, with the reply's figures after it. -/
theorem usableReportIsEntered : Obligations.UsableReportIsEntered := by
  unfold Obligations.UsableReportIsEntered
  intro s l p h lo q quality hl hq hmode hlen hreached
  have hunit : (s.portals.get p).report (s.plans.running.portals.get p).mode [h, lo, q] =
      (({ s.portals.get p with mark := some (s.portals.get p).timeBase }).enter (min 9999 (nat16 h lo)) .station quality,
        .done) := by
    rw [PortalUnit.report_usable hq, PortalUnit.usableReport, if_neg hmode]
  have hexec := exec_report hl hreached (by simp) hunit
  rw [PortalUnit.enter_eq] at hexec
  exact ⟨_, hexec, rfl, pushSample_eq _ _ hlen⟩

/-- Settles O10: NOT_USED by the mode, BAD_FIELD by the quality or the length. -/
theorem reportsThatEnterNothing : Obligations.ReportsThatEnterNothing := by
  unfold Obligations.ReportsThatEnterNothing
  intro s l p hl hreached
  refine ⟨fun h lo q hq hmode => ?_, fun h lo q hq => ?_, fun fields hlen hf => ?_⟩
  · have hquality : ∃ quality, (q = 0 ∧ quality = Quality.good) ∨ (q = 1 ∧ quality = .degraded) := by
      rcases Nat.le_one_iff_eq_zero_or_eq_one.1 hq with h0 | h1
      · exact ⟨.good, .inl ⟨BitVec.eq_of_toNat_eq h0, rfl⟩⟩
      · exact ⟨.degraded, .inr ⟨BitVec.eq_of_toNat_eq h1, rfl⟩⟩
    obtain ⟨quality, hquality⟩ := hquality
    exact exec_report hl hreached (by simp) (by
      rw [PortalUnit.report_usable hquality, PortalUnit.usableReport, if_pos hmode])
  · exact exec_report_idle hl hreached (by simp) (PortalUnit.report_unlisted hq)
  · exact exec_report_idle hl hreached hf (PortalUnit.report_wrongLength hlen)

/-- Settles O11: the purge by what it leaves of the window. -/
theorem invalidReportPurgesStationSamples : Obligations.InvalidReportPurgesStationSamples := by
  unfold Obligations.InvalidReportPurgesStationSamples
  intro s l p h lo hl hreached hsound
  refine ⟨_, exec_report hl hreached (by simp) (PortalUnit.report_invalid _ _ h lo), rfl, ?_⟩
  generalize s.portals.get p = u at hsound
  rcases u.keep_cases (u.window.filter fun x => x.source != .station) with ⟨hw, he⟩ | ⟨hw, hrest, he⟩ | ⟨hw, hrest, he⟩
    <;> rw [he]
  · exact ⟨by simp [hw], rfl, rfl, fun hne => absurd hw hne, fun _ => rfl, fun _ hne => absurd hw hne,
      fun _ hne => absurd hw hne⟩
  · rw [hrest]
    rcases u.runDry_cases with ⟨h0, hd⟩ | ⟨hpos, hd⟩ <;> rw [hd]
    · exact ⟨rfl, rfl, rfl, fun hne => absurd rfl hne, fun hempty => absurd hempty hw, fun _ _ hpos => by omega,
        fun _ _ _ => ⟨rfl, rfl, rfl, rfl⟩⟩
    · exact ⟨rfl, rfl, rfl, fun hne => absurd rfl hne, fun hempty => absurd hempty hw,
        fun _ _ _ => ⟨rfl, rfl, rfl, rfl⟩, fun _ _ h0 => by omega⟩
  · have hlive := hsound.live hw
    refine ⟨rfl, rfl, rfl, fun _ => ⟨hlive, ?_⟩, fun hempty => absurd hempty hw, fun hempty => absurd hempty hrest,
      fun hempty => absurd hempty hrest⟩
    simp [PortalUnit.derive, PortalUnit.figure, hlive]

/-! ### A broadcast REPORT -/

/-- The units after an addressed REPORT: that of the line's portal, or none on Line S. -/
theorem exec_report_portals {s t : State} {l : Line} {fields : List Byte} (h : s.Reached l) (hf : fields.length ≤ 59)
    (hexec : exec (.report l false fields) s = .next t) :
    t.portals = (takeReport l fields s).1.portals := by
  cases hl : l.portal with
  | some p =>
    rw [exec_report hl h hf rfl] at hexec
    obtain rfl := Host.Outcome.next.inj hexec
    simp only [takeReport_of_portal hl]
    rfl
  | none =>
    have hs : l = .s := by cases l <;> simp_all [Line.portal]
    have hrefused := exec_refusedLine .report h hf (by simp [Kind.allowed, hs])
    obtain rfl := Host.Outcome.next.inj (hexec.symm.trans hrefused)
    simp only [takeReport, hl]
    rfl

/-- A REPORT takes from the state the units and the running plan alone, and changes the units alone. -/
theorem takeReport_eq (l : Line) (fields : List Byte) (s : State) :
    (takeReport l fields s).1 = { s with portals := (takeReport l fields s).1.portals } := by
  cases hl : l.portal with
  | none => simp only [takeReport, hl]
  | some p => rw [takeReport_of_portal hl]; rfl

/-- Settles O12: the broadcast and the addressed REPORT go through the same `takeReport`. -/
theorem broadcastReportActsWithoutReply : Obligations.BroadcastReportActsWithoutReply := by
  unfold Obligations.BroadcastReportActsWithoutReply
  intro s l fields h hf
  have hdispatch : dispatchBroadcast l Kind.report.code fields (s.addressed l true) =
      { s.addressed l true with portals := (takeReport l fields s).1.portals } := by
    have hportals : (takeReport l fields (s.addressed l true)).1.portals = (takeReport l fields s).1.portals := by
      cases hl : l.portal with
      | none => simp only [takeReport, hl]; rfl
      | some p => rw [takeReport_of_portal hl, takeReport_of_portal hl]; rfl
    simp only [dispatchBroadcast, Kind.ofCode_code]
    split
    · subst l; rfl
    · rw [takeReport_eq, hportals]
  refine ⟨_, exec_broadcast .report h hf hdispatch, ?_, ?_, ?_, fun m hm => ?_, rfl, ?_, fun p hp => ?_,
    fun t' ha hexec => ?_, fun a t' ha hexec => ?_⟩
  · simp
  · simp
  · simp
  · simp [Ne.symm hm]
  · rintro rfl
    rfl
  · simp only [takeReport_of_portal hp]
    rfl
  · exact (exec_report_portals ⟨h, ha⟩ hf hexec).symm
  · have hreports := exec_report_portals (s := { s with straps := { s.straps with address := a } }) ⟨h, ha⟩ hf hexec
    rw [hreports]
    cases hl : l.portal with
    | none => simp only [takeReport, hl]; rfl
    | some p => rw [takeReport_of_portal hl, takeReport_of_portal hl]; rfl

/-! ### The units at one clock, and invariants of the units -/

theorem PortalUnit.clock_fst (p : Portal) (u : PortalUnit) :
    (u.clock p).1 = { u with tickPhase := (u.clock p).1.tickPhase } := by
  unfold PortalUnit.clock
  split <;> rfl

theorem State.clock_portal (s : State) (p : Portal) : ∃ n, s.clock.portals.get p = { s.portals.get p with tickPhase := n } := by
  unfold State.clock
  split
  · exact ⟨_, rfl⟩
  · exact ⟨_, rfl⟩
  · cases p
    exacts [⟨_, PortalUnit.clock_fst .a s.portals.a⟩, ⟨_, PortalUnit.clock_fst .b s.portals.b⟩]

theorem forall_portal {Q : Portal → Prop} : (∀ p, Q p) ↔ Q .a ∧ Q .b :=
  ⟨fun h => ⟨h .a, h .b⟩, fun h p => by cases p; exacts [h.1, h.2]⟩

theorem PerPortal.forall_get_set {α : Type} {Q : α → Prop} {v : PerPortal α} {p : Portal} {x : α} (hv : ∀ q, Q (v.get q))
    (hx : Q x) (q : Portal) : Q ((v.set p x).get q) := by
  rw [PerPortal.get_set]
  split
  · exact hx
  · exact hv q

/-- What starts of units in range have, and ticks, reports and local samples keep, every effect keeps of both units. -/
theorem Effect.keeps_units {Q : PortalUnit → Prop} {s t : State} (he : Effect s t)
    (phase : ∀ u n, Q u → Q { u with tickPhase := n })
    (tick : ∀ p u, Q u → Q (u.tick (s.plans.running.portals.get p)))
    (report : ∀ u mode fields, Q u → Q (u.report mode fields).1)
    (local_ : ∀ u mode lum, lum ≤ 9999 → Q u → Q (u.localSample mode lum))
    (start : ∀ r : PortalRecord, r.inRange = true → Q (PortalUnit.started r))
    (h : ∀ p, Q (s.portals.get p)) : ∀ p, Q (t.portals.get p) := by
  cases he with
  | tick p => exact PerPortal.forall_get_set h (tick p _ (h p))
  | report p mode fields => exact PerPortal.forall_get_set h (report _ mode fields (h p))
  | localSample p mode lum bounded => exact PerPortal.forall_get_set h (local_ _ mode lum bounded (h p))
  | held m => exact forall_portal.2 ⟨start builtInPortal (by decide), start builtInPortal (by decide)⟩
  | startUp address rate =>
    obtain ⟨plan, src, hplan, hrange, -⟩ := startUpPlan_cases s.store.image
    obtain ⟨-, hportals, -⟩ := (Plan.inRange_iff plan).1 hrange
    simp only [State.startUp, hplan]
    exact forall_portal.2 ⟨start _ (hportals .a), start _ (hportals .b)⟩
  | clock =>
    intro p
    obtain ⟨n, hn⟩ := s.clock_portal p
    rw [hn]
    exact phase _ _ (h p)
  | _ => exact h

/-! ### Windows, portal states and hold timers -/

theorem PortalUnit.enter_sound (u : PortalUnit) (v : Nat) (src : Source) (q : Quality) : UnitSound (u.enter v src q) := by
  rw [enter_eq]
  exact ⟨by rw [pushSample_length]; omega, by simp [pushSample_ne_nil], by simp⟩

theorem PortalUnit.keep_sound {u : PortalUnit} (h : UnitSound u) {w : List Sample} (hw : w.length ≤ u.window.length) :
    UnitSound (u.keep w) := by
  rcases u.keep_cases w with ⟨-, he⟩ | ⟨-, -, he⟩ | ⟨hne, hw', he⟩ <;> rw [he]
  · exact h
  · exact u.runDry_sound
  · have hlive := h.live hne
    exact ⟨hw.trans h.1, by simp [derive, hlive, hw'], h.2.2⟩

/-- All that a report can do to a unit. -/
theorem PortalUnit.report_cases (u : PortalUnit) (mode : SourceMode) (fields : List Byte) :
    (u.report mode fields).1 = u ∨ (u.report mode fields).1 = { u with mark := some u.timeBase }
      ∨ (∃ lum q, (u.report mode fields).1 =
          ({ u with mark := some u.timeBase }).enter (min 9999 lum) .station q)
      ∨ (u.report mode fields).1 = { u.keep (u.window.filter fun x => x.source != .station) with mark := none } := by
  have husable : ∀ lum q, (u.usableReport mode lum q).1 = { u with mark := some u.timeBase }
      ∨ (u.usableReport mode lum q).1 = ({ u with mark := some u.timeBase }).enter (min 9999 lum) .station q := by
    intro lum q
    unfold usableReport
    split
    · exact .inl rfl
    · exact .inr rfl
  unfold report
  split
  · split_ifs
    · exact .inr ((husable _ _).imp_right fun h => .inl ⟨_, _, h⟩)
    · exact .inr ((husable _ _).imp_right fun h => .inl ⟨_, _, h⟩)
    · exact .inr (.inr (.inr rfl))
    · exact .inl rfl
  · exact .inl rfl

theorem PortalUnit.report_sound {u : PortalUnit} (h : UnitSound u) (mode : SourceMode) (fields : List Byte) :
    UnitSound (u.report mode fields).1 := by
  rcases u.report_cases mode fields with he | he | ⟨lum, q, he⟩ | he <;> rw [he]
  · exact h
  · exact h
  · exact enter_sound _ _ _ _
  · exact keep_sound h (List.length_filter_le _ _)

/-- A local sample is recorded, and entered or discarded (R10). -/
theorem PortalUnit.localSample_cases (u : PortalUnit) (mode : SourceMode) (lum : Nat) :
    (u.takesLocal mode = true
        ∧ u.localSample mode lum = ({ u with lastLocal := some lum }).enter lum .photometer .good)
      ∨ (u.takesLocal mode = false ∧ u.localSample mode lum = { u with lastLocal := some lum }) := by
  have h : ({ u with lastLocal := some lum } : PortalUnit).takesLocal mode = u.takesLocal mode := rfl
  simp only [localSample, h]
  cases u.takesLocal mode <;> simp

theorem PortalUnit.localSample_sound {u : PortalUnit} (h : UnitSound u) (mode : SourceMode) (lum : Nat) :
    UnitSound (u.localSample mode lum) := by
  rcases u.localSample_cases mode lum with ⟨-, he⟩ | ⟨-, he⟩ <;> rw [he]
  · exact enter_sound _ _ _ _
  · exact h

theorem Effect.keeps_portalsSound {s t : State} (he : Effect s t) (h : PortalsSound s) : PortalsSound t := by
  refine forall_portal.1 (he.keeps_units (Q := UnitSound) (fun u n hu => hu) (fun p u hu => PortalUnit.tick_sound _ hu)
    (fun u mode fields hu => PortalUnit.report_sound hu mode fields)
    (fun u mode lum _ hu => PortalUnit.localSample_sound hu mode lum) (fun r _ => ?_)
    (forall_portal.2 h))
  simp [UnitSound, PortalUnit.started]

/-- Settles O54: what a tick, a report and a local sample keep of a sound unit. -/
theorem everyStepKeepsPortalsSound : Obligations.EveryStepKeepsPortalsSound := by
  unfold Obligations.EveryStepKeepsPortalsSound
  exact fun s t hs h => step_keeps Effect.keeps_portalsSound h hs

/-! ### Luminances -/

theorem PortalUnit.figure_bounded {u : PortalUnit} (h : UnitBounded u) : u.figure ≤ 9999 := by
  obtain ⟨hwindow, -, hheld, hdefault, -⟩ := h
  unfold figure
  split
  · exact hdefault
  · exact windowMedian_le hwindow
  · exact hheld
  · exact hdefault

theorem PortalUnit.derive_bounded {u : PortalUnit} (h : UnitBounded u) : UnitBounded u.derive := by
  have hfigure := figure_bounded h
  obtain ⟨hwindow, -, hheld, hdefault, hlast⟩ := h
  exact ⟨hwindow, hfigure, hheld, hdefault, hlast⟩

theorem PortalUnit.enter_bounded {u : PortalUnit} (h : UnitBounded u) {v : Nat} (hv : v ≤ 9999) (src : Source)
    (q : Quality) : UnitBounded (u.enter v src q) := by
  obtain ⟨hwindow, hlum, hheld, hdefault, hlast⟩ := h
  refine derive_bounded ⟨fun x hx => ?_, hlum, hheld, hdefault, hlast⟩
  rcases mem_pushSample hx with hx | rfl
  · exact hwindow x hx
  · exact hv

theorem PortalUnit.runDry_bounded {u : PortalUnit} (h : UnitBounded u) : UnitBounded u.runDry := by
  obtain ⟨-, hlum, -, hdefault, hlast⟩ := h
  rcases u.runDry_cases with ⟨-, he⟩ | ⟨-, he⟩ <;> rw [he]
  · exact ⟨by simp, hdefault, hlum, hdefault, hlast⟩
  · exact ⟨by simp, hlum, hlum, hdefault, hlast⟩

theorem PortalUnit.countDown_bounded {u : PortalUnit} (h : UnitBounded u) : UnitBounded u.countDown := by
  obtain ⟨hwindow, hlum, hheld, hdefault, hlast⟩ := h
  rcases u.countDown_cases with ⟨-, he⟩ | ⟨c, -, -, he⟩ | ⟨c, -, -, he⟩ <;> rw [he]
  · exact ⟨hwindow, hlum, hheld, hdefault, hlast⟩
  · exact ⟨hwindow, hdefault, hheld, hdefault, hlast⟩
  · exact ⟨hwindow, hlum, hheld, hdefault, hlast⟩

theorem PortalUnit.tick_bounded {r : PortalRecord} (hr : r.defaultLum ≤ 9999) {u : PortalUnit} (h : UnitBounded u) :
    UnitBounded (u.tick r) := by
  obtain ⟨hwindow, hlum, hheld, -, hlast⟩ := h
  have hrenewed : UnitBounded (u.renewed r) := ⟨hwindow, hlum, hheld, hr, hlast⟩
  rcases u.tick_cases r with ⟨-, -, he⟩ | ⟨-, -, he⟩ | ⟨-, -, he⟩ <;> rw [he]
  · exact countDown_bounded (derive_bounded hrenewed)
  · exact runDry_bounded hrenewed
  · refine countDown_bounded (derive_bounded ⟨fun x hx => ?_, hlum, hheld, hr, hlast⟩)
    exact hwindow x ((List.dropWhile_sublist _).mem hx)

theorem PortalUnit.report_bounded {u : PortalUnit} (h : UnitBounded u) (mode : SourceMode) (fields : List Byte) :
    UnitBounded (u.report mode fields).1 := by
  rcases u.report_cases mode fields with he | he | ⟨lum, q, he⟩ | he <;> rw [he]
  · exact h
  · exact h
  · exact enter_bounded h (min_le_left _ _) _ _
  · rcases u.keep_cases (u.window.filter fun x => x.source != .station) with ⟨-, hk⟩ | ⟨-, -, hk⟩ | ⟨-, -, hk⟩ <;> rw [hk]
    · exact h
    · exact runDry_bounded h
    · obtain ⟨hwindow, hlum, hheld, hdefault, hlast⟩ := h
      have hkept : UnitBounded { u with window := u.window.filter fun x => x.source != .station } :=
        ⟨fun x hx => hwindow x (List.mem_of_mem_filter hx), hlum, hheld, hdefault, hlast⟩
      have hderived := derive_bounded hkept
      exact hderived

theorem PortalUnit.localSample_bounded {u : PortalUnit} (h : UnitBounded u) (mode : SourceMode) {lum : Nat}
    (hlum : lum ≤ 9999) : UnitBounded (u.localSample mode lum) := by
  obtain ⟨hwindow, heff, hheld, hdefault, -⟩ := h
  have hlast : UnitBounded { u with lastLocal := some lum } := ⟨hwindow, heff, hheld, hdefault, hlum⟩
  rcases u.localSample_cases mode lum with ⟨-, he⟩ | ⟨-, he⟩ <;> rw [he]
  · exact enter_bounded hlast hlum _ _
  · exact hlast

theorem PortalUnit.started_bounded {r : PortalRecord} (hr : r.inRange = true) : UnitBounded (PortalUnit.started r) := by
  have hdefault := (r.inRange_iff.1 hr).1
  exact ⟨by simp [started], hdefault, by simp [started], hdefault, by simp [started]⟩

theorem Effect.keeps_luminances {s t : State} (he : Effect s t) (h : PlansSound s ∧ LuminancesBounded s) :
    PlansSound t ∧ LuminancesBounded t := by
  obtain ⟨hplans, hunits⟩ := h
  obtain ⟨-, hportals, -⟩ := (Plan.inRange_iff _).1 hplans.1
  exact ⟨he.keeps_plansSound hplans,
    forall_portal.1 (he.keeps_units (Q := UnitBounded) (fun u n hu => hu)
      (fun p u hu => PortalUnit.tick_bounded ((PortalRecord.inRange_iff _).1 (hportals p)).1 hu)
      (fun u mode fields hu => PortalUnit.report_bounded hu mode fields)
      (fun u mode lum hlum hu => PortalUnit.localSample_bounded hu mode hlum) (fun r => PortalUnit.started_bounded)
      (forall_portal.2 hunits))⟩

/-- Settles O55: with the default luminances of plans in range, every figure a unit takes is bounded. -/
theorem everyStepKeepsLuminancesBounded : Obligations.EveryStepKeepsLuminancesBounded := by
  unfold Obligations.EveryStepKeepsLuminancesBounded
  exact fun s t hplans hs h => (step_keeps Effect.keeps_luminances h ⟨hplans, hs⟩).2

end Sys2Proof.Machine
end

section
/-! PROOFS. The claim table (05_claims): what a CLAIM is, what leaves the table, the summary, and the table's invariant. -/

namespace Sys2Proof.Machine

/-! ### Keys (R94) -/

theorem Claim.key_eq_iff {c : Claim} {o : Line} {i : Nat} : c.key = (o, i) ↔ c.owner = o ∧ c.id = i := by
  simp [Claim.key]

theorem heldClaim_iff_key {t : List Claim} {o : Line} {i : Nat} :
    (heldClaim t o i).isSome = true ↔ (o, i) ∈ t.map Claim.key := by
  simp [heldClaim_isSome, List.mem_map, Claim.key_eq_iff]

theorem removeClaim_eq (t : List Claim) (o : Line) (i : Nat) :
    removeClaim t o i = t.filter fun c => decide (c.key ≠ (o, i)) := by
  unfold removeClaim
  congr 1
  funext c
  rw [Bool.eq_iff_iff]
  simp [Claim.key_eq_iff]

theorem renewClaim_eq (t : List Claim) (c : Claim) : renewClaim t c = t.map fun x => if x.key = c.key then c else x := by
  unfold renewClaim
  congr 1
  funext x
  simp [Claim.key]

/-- A renewal keeps every key in its place. -/
theorem renewClaim_keys (t : List Claim) (c : Claim) : (renewClaim t c).map Claim.key = t.map Claim.key := by
  rw [renewClaim_eq, List.map_map]
  refine List.map_congr_left fun x _ => ?_
  simp only [Function.comp_apply]
  split
  · exact Eq.symm ‹_›
  · rfl

/-! ### The fields of a CLAIM (R98) -/

theorem ClaimKind.ofCode_eq_some {b : Byte} {k : ClaimKind} : ClaimKind.ofCode b.toNat = some k ↔ b = k.code := by
  have h : ∀ n : Nat, ClaimKind.ofCode n = some k ↔ n = k.code.toNat := by
    intro n
    unfold ClaimKind.ofCode
    split <;> cases k <;> simp_all [ClaimKind.code]
  rw [h, BitVec.toNat_eq]

theorem parseClaim_eq_some {l : Line} {id kind l1 l0 d1 d0 n : Byte} {zones : List Byte} {c : Claim} :
    parseClaim l (id :: kind :: l1 :: l0 :: d1 :: d0 :: n :: zones) = some c ↔
      (n.toNat = zones.length ∧ 1 ≤ n.toNat ∧ n.toNat ≤ 12 ∧ id.toNat ≤ 7)
        ∧ kind = c.kind.code ∧ (l = .s ∨ (c.kind = .floor ∧ 1 ≤ nat16 d1 d0)) ∧ (∀ z ∈ zones, z.toNat ≤ 11) ∧ zones.Nodup
        ∧ c = { owner := l, id := id.toNat, kind := c.kind, level := min 1000 (nat16 l1 l0), zones := zoneSet zones
                remaining := if nat16 d1 d0 = 0 then none else some (10 * min 3600 (nat16 d1 d0)) } := by
  simp only [parseClaim]
  constructor
  · intro h
    obtain ⟨hform, h⟩ := Option.ite_none_right_eq_some.1 h
    split at h
    · exact absurd h (by simp)
    · rename_i k hk
      obtain ⟨⟨hmay, hzones, hnodup⟩, h⟩ := Option.ite_none_right_eq_some.1 h
      obtain rfl := Option.some.inj h
      exact ⟨hform, ClaimKind.ofCode_eq_some.1 hk, hmay, by simpa using hzones, hnodup, rfl⟩
  · rintro ⟨hform, hkind, hmay, hzones, hnodup, hc⟩
    rw [if_pos hform, ClaimKind.ofCode_eq_some.2 hkind]
    simp only
    rw [if_pos ⟨hmay, by simpa using hzones, hnodup⟩, ← hc]

/-- Fields of fewer than 7 characters are no claim, and those of a claim have the seven of its head. -/
theorem parseClaim_form {l : Line} {fields : List Byte} {c : Claim} (h : parseClaim l fields = some c) :
    ∃ id kind l1 l0 d1 d0 n zones, fields = id :: kind :: l1 :: l0 :: d1 :: d0 :: n :: zones := by
  unfold parseClaim at h
  split at h
  · exact ⟨_, _, _, _, _, _, _, _, rfl⟩
  · exact absurd h (by simp)

theorem parseClaim_short {l : Line} {fields : List Byte} (h : fields.length < 7) : parseClaim l fields = none := by
  cases hp : parseClaim l fields with
  | none => rfl
  | some c =>
    obtain ⟨id, kind, l1, l0, d1, d0, n, zones, rfl⟩ := parseClaim_form hp
    simp only [List.length_cons] at h
    omega

/-- A claim that passes the checks is sound (R94, R99). -/
theorem parseClaim_sound {l : Line} {fields : List Byte} {c : Claim} (h : parseClaim l fields = some c) :
    ClaimSound c := by
  obtain ⟨id, kind, l1, l0, d1, d0, n, zones, rfl⟩ := parseClaim_form h
  obtain ⟨⟨-, -, -, hid⟩, -, hmay, -, -, hc⟩ := parseClaim_eq_some.1 h
  rw [hc]
  refine ⟨hid, min_le_left _ _, ?_, ?_⟩
  · by_cases hd : nat16 d1 d0 = 0
    · simp [hd]
    · simp only [if_neg hd, Claim.time, Option.getD_some]
      omega
  · rcases hmay with rfl | ⟨hfloor, hd⟩
    · exact .inl rfl
    · exact .inr ⟨hfloor, by simp [Nat.pos_iff_ne_zero.1 hd]⟩

/-- The zone set of a list of zone numbers. -/
theorem zoneSet_getLsbD {zones : List Byte} {z : Nat} (hz : z < 12) :
    (zoneSet zones).getLsbD z = true ↔ ∃ b ∈ zones, b.toNat = z := by
  induction zones with
  | nil => simp [zoneSet]
  | cons b zones ih =>
    rw [zoneSet, BitVec.getLsbD_or, Bool.or_eq_true, ih, BitVec.getLsbD_ofNat, Nat.testBit_two_pow]
    simp [hz]

/-! ### Zone permission and eligibility (R99, R100, R110) -/

theorem ZoneKind.hasPortal_iff {k : ZoneKind} :
    k.hasPortal = true ↔ k = .threshold ∨ k = .transition ∨ k = .exit := by
  cases k <;> simp [ZoneKind.hasPortal]

theorem stationMayClaim_iff {p : Portal} {r : ZoneRecord} : stationMayClaim p r = true ↔
    ((r.kind = .threshold ∨ r.kind = .transition ∨ r.kind = .exit) ∧ r.portal = some p) ∨ r.kind = .interior := by
  simp [stationMayClaim, ZoneKind.hasPortal_iff]

/-- The owner's side of a claim's permission: Line S, an interior zone, or a zone of the owner's own portal. -/
theorem ownerMayClaim_iff (o : Line) (r : ZoneRecord) :
    (∀ p, o.portal = some p → stationMayClaim p r = true) ↔
      o = .s ∨ r.kind = .interior
        ∨ (r.kind = .threshold ∨ r.kind = .transition ∨ r.kind = .exit)
          ∧ (o = .a ∧ r.portal = some .a ∨ o = .b ∧ r.portal = some .b) := by
  cases o <;> simp [Line.portal, stationMayClaim_iff, or_comm]

theorem zonesPermitted_iff_forall (plan : Plan) (c : Claim) : zonesPermitted plan c = true ↔
    ∀ z, z < 12 → c.zones.getLsbD z = true → ∀ p, c.owner.portal = some p → stationMayClaim p (plan.zone z) = true := by
  unfold zonesPermitted
  cases c.owner.portal with
  | none => simp
  | some p =>
    simp only [List.all_eq_true, List.mem_range, Bool.or_eq_true, Bool.not_eq_true', Option.some.injEq, forall_eq']
    exact forall₂_congr fun z _ => by cases c.zones.getLsbD z <;> simp

theorem zonesPermitted_iff (plan : Plan) (c : Claim) : zonesPermitted plan c = true ↔
    c.owner = .s ∨ ∀ z, z < 12 → c.zones.getLsbD z = true →
      (plan.zone z).kind = .interior
        ∨ ((plan.zone z).kind = .threshold ∨ (plan.zone z).kind = .transition ∨ (plan.zone z).kind = .exit)
          ∧ (c.owner = .a ∧ (plan.zone z).portal = some .a ∨ c.owner = .b ∧ (plan.zone z).portal = some .b) := by
  rw [zonesPermitted_iff_forall]
  simp only [ownerMayClaim_iff]
  by_cases hs : c.owner = .s
  · simp [hs]
  · simp [hs]

theorem Claim.eligible_iff (plan : Plan) (z : Nat) (c : Claim) : c.eligible plan z = true ↔
    c.zones.getLsbD z = true ∧ (plan.zone z).kind ≠ .unused
      ∧ (c.owner = .s ∨ (plan.zone z).kind = .interior
        ∨ ((plan.zone z).kind = .threshold ∨ (plan.zone z).kind = .transition ∨ (plan.zone z).kind = .exit)
          ∧ (c.owner = .a ∧ (plan.zone z).portal = some .a ∨ c.owner = .b ∧ (plan.zone z).portal = some .b)) := by
  rw [← ownerMayClaim_iff]
  unfold Claim.eligible
  cases c.owner.portal <;> simp [and_assoc]

/-! ### CLAIM -/

/-- Settles O30: the three outcomes of storing a claim, by its key. -/
theorem claimIsRenewedOrAppended : Obligations.ClaimIsRenewedOrAppended := by
  unfold Obligations.ClaimIsRenewedOrAppended
  intro s l fields c h hf hparse hzones hsound
  have hstored : ∀ t, storeClaim s.claims.table c = some t → exec (.claim l false fields) s =
      .next (((s.addressed l false).setTable t).answered l 0x11 ⟨.done, be16 c.time⟩) := fun t ht =>
    exec_reached .claim h hf rfl (by simp [ownerTakes, takeClaim, hparse, hzones, ht])
  have hkey : (heldClaim s.claims.table c.owner c.id).isSome = true ↔ c.key ∈ s.claims.table.map Claim.key :=
    heldClaim_iff_key
  rcases storeClaim_cases s.claims.table c with ⟨hheld, hst⟩ | ⟨hheld, hlen, hst⟩ | ⟨hheld, hlen, hst⟩
  · have hmem := hkey.1 hheld
    refine ⟨fun _ => ?_, fun hnot => absurd hmem hnot, fun hnot => absurd hmem hnot⟩
    rw [hstored _ hst, renewClaim_eq]
  · have hnot : c.key ∉ s.claims.table.map Claim.key := fun hm => by simp [hkey.2 hm] at hheld
    exact ⟨fun hm => absurd hm hnot, fun _ _ => hstored _ hst, fun _ hfull => by omega⟩
  · have hnot : c.key ∉ s.claims.table.map Claim.key := fun hm => by simp [hkey.2 hm] at hheld
    exact ⟨fun hm => absurd hm hnot, fun _ hroom => by omega, fun _ _ =>
      exec_repliedOnly .claim h hf rfl (by simp [ownerTakes, takeClaim, hparse, hzones, hst])⟩

/-- Settles O31: the checks on the fields, the clamps, and the permission of each owner. -/
theorem claimChecksAndClamps : Obligations.ClaimChecksAndClamps := by
  unfold Obligations.ClaimChecksAndClamps
  refine ⟨fun l id kind l1 l0 d1 d0 n zones => ⟨fun ⟨c, hc⟩ => ?passes, fun h => ?exists_⟩,
    fun l fields h => parseClaim_short h, fun l id kind l1 l0 d1 d0 n zones c h => ?clamps, zonesPermitted_iff,
    fun s l fields h hf => ⟨fun hnone => ?badField, fun c p z hparse hl hz hset hnot => ?refusedZone⟩⟩
  case passes =>
    obtain ⟨⟨hn, hlow, hhigh, hid⟩, hkind, hmay, hzones, hnodup, -⟩ := parseClaim_eq_some.1 hc
    have hcode : c.kind.code.toNat ≤ 2 ∧ (c.kind = .floor → c.kind.code.toNat = 0) := by cases c.kind <;> decide
    refine ⟨hn, by omega, by omega, hid, ?_, ?_, hzones, hnodup⟩
    · rw [hkind]
      rcases hmay with hl | ⟨hfloor, -⟩
      · exact .inr ⟨hl, hcode.1⟩
      · exact .inl (hcode.2 hfloor)
    · exact hmay.imp_right fun hd => Nat.pos_iff_ne_zero.1 hd.2
  case exists_ =>
    obtain ⟨hn, hlow, hhigh, hid, hkind, hd, hzones, hnodup⟩ := h
    have hcode : ∃ k : ClaimKind, kind = k.code ∧ (l ≠ .s → k = .floor) := by
      have hk : kind.toNat = 0 ∨ kind.toNat = 1 ∨ kind.toNat = 2 := by omega
      rcases hk with h0 | h1 | h2
      · exact ⟨.floor, BitVec.eq_of_toNat_eq h0, fun _ => rfl⟩
      · exact ⟨.cap, BitVec.eq_of_toNat_eq h1, fun hl => by simp [hl, h1] at hkind⟩
      · exact ⟨.force, BitVec.eq_of_toNat_eq h2, fun hl => by simp [hl, h2] at hkind⟩
    obtain ⟨k, hk, hfloor⟩ := hcode
    refine ⟨⟨l, id.toNat, k, min 1000 (nat16 l1 l0), zoneSet zones,
        if nat16 d1 d0 = 0 then none else some (10 * min 3600 (nat16 d1 d0))⟩,
      parseClaim_eq_some.2 ⟨⟨hn, by omega, by omega, hid⟩, hk, ?_, hzones, hnodup, rfl⟩⟩
    by_cases hl : l = .s
    · exact .inl hl
    · exact .inr ⟨hfloor hl, Nat.pos_of_ne_zero (hd.resolve_left hl)⟩
  case clamps =>
    obtain ⟨-, hkind, -, -, -, hc⟩ := parseClaim_eq_some.1 h
    rw [hc]
    refine ⟨rfl, rfl, hkind.symm, rfl, ?_, ?_, fun z hz => zoneSet_getLsbD hz⟩
    · by_cases hd : nat16 d1 d0 = 0
      · simp only [nat16] at hd
        simp [Claim.time, nat16, hd]
      · simp only [Claim.time, if_neg hd, Option.getD_some]
        rfl
    · simp [nat16]
  case badField => exact exec_repliedOnly .claim h hf rfl (by simp [ownerTakes, takeClaim, hnone])
  case refusedZone =>
    obtain ⟨id, kind, l1, l0, d1, d0, n, zones, rfl⟩ := parseClaim_form hparse
    obtain ⟨-, -, -, -, -, hc⟩ := parseClaim_eq_some.1 hparse
    have howner : c.owner = l := by rw [hc]
    have hzones : zonesPermitted s.plans.running c = false := by
      by_contra hyes
      have hall := (zonesPermitted_iff_forall _ _).1 (by simpa using hyes)
      exact hnot (stationMayClaim_iff.1 (hall z hz hset p (howner ▸ hl)))
    exact exec_repliedOnly .claim h hf rfl (by simp [ownerTakes, takeClaim, hparse, hzones])

/-! ### RELEASE and WITHDRAW -/

theorem State.takeAway_of_mem {s : State} {o : Line} {i : Nat} (h : (o, i) ∈ s.claims.table.map Claim.key) :
    s.takeAway o i = (s.setTable (s.claims.table.filter fun c => decide (c.key ≠ (o, i))), .plain .done) := by
  rw [State.takeAway, if_pos (heldClaim_iff_key.2 h), removeClaim_eq]

theorem State.takeAway_of_not_mem {s : State} {o : Line} {i : Nat} (h : (o, i) ∉ s.claims.table.map Claim.key) :
    s.takeAway o i = (s, .plain .notHeld) := by
  rw [State.takeAway, if_neg fun hh => h (heldClaim_iff_key.1 hh)]

theorem takeRelease_of_id {l : Line} {b : Byte} (h : b.toNat ≤ 7) (s : State) :
    takeRelease l [b] s = s.takeAway l b.toNat := by
  simp only [takeRelease, if_pos h]

theorem takeRelease_of_length {l : Line} {fields : List Byte} (h : fields.length ≠ 1) (s : State) :
    takeRelease l fields s = (s, .plain .badField) := by
  unfold takeRelease
  split
  · exact absurd rfl h
  · rfl

theorem lineOfCode_lineCode (l : Line) : lineOfCode (lineCode l).toNat = some l := by cases l <;> rfl

theorem takeWithdraw_of_id {l o : Line} {b : Byte} (h : b.toNat ≤ 7) (s : State) :
    takeWithdraw l [lineCode o, b] s = s.takeAway o b.toNat := by
  simp only [takeWithdraw, lineOfCode_lineCode, if_pos h]

theorem takeWithdraw_of_length {l : Line} {fields : List Byte} (h : fields.length ≠ 2) (s : State) :
    takeWithdraw l fields s = (s, .plain .badField) := by
  unfold takeWithdraw
  split
  · exact absurd rfl h
  · rfl

/-- Settles O32: the owners by the id, the owner code and the length of the body. -/
theorem releaseAndWithdrawRemoveClaims : Obligations.ReleaseAndWithdrawRemoveClaims := by
  unfold Obligations.ReleaseAndWithdrawRemoveClaims
  intro s l b
  refine ⟨fun h hb hheld => ?_, fun h hb hnot => ?_, fun h hb => ?_, fun h hlow hhigh => ?_, fun h hb hheld => ?_,
    fun h hb hnot => ?_, fun h hb => ?_, fun h owner ho => ?_, fun fields h hlen hf => ?_, fun fields h hlen hf => ?_⟩
  · exact exec_reached .release h (by simp) rfl ((takeRelease_of_id hb _).trans (State.takeAway_of_mem hheld))
  · exact exec_repliedOnly .release h (by simp) rfl ((takeRelease_of_id hb _).trans (State.takeAway_of_not_mem hnot))
  · refine exec_reached .release h (by simp) rfl ?_
    simp only [ownerTakes, takeRelease, hb]
    simp [bne, Ne, decide_not, beq_eq_decide]
  · refine exec_repliedOnly .release h (by simp) rfl ?_
    simp only [ownerTakes, takeRelease]
    rw [if_neg (by omega), if_neg (by omega)]
  · exact exec_reached .withdraw h (by simp) rfl ((takeWithdraw_of_id (l := .s) hb _).trans (State.takeAway_of_mem hheld))
  · exact exec_repliedOnly .withdraw h (by simp) rfl ((takeWithdraw_of_id (l := .s) hb _).trans (State.takeAway_of_not_mem hnot))
  · refine exec_repliedOnly .withdraw h (by simp) rfl ?_
    simp only [ownerTakes, takeWithdraw, lineOfCode_lineCode]
    rw [if_neg (by omega)]
  · refine exec_repliedOnly .withdraw h (by simp) rfl ?_
    have hnone : lineOfCode owner.toNat = none := by
      unfold lineOfCode
      split
      case h_4 => rfl
      all_goals omega
    simp only [ownerTakes, takeWithdraw, hnone]
  · exact exec_repliedOnly .release h hf rfl (takeRelease_of_length hlen _)
  · exact exec_repliedOnly .withdraw h hf rfl (takeWithdraw_of_length (l := .s) hlen _)

/-! ### The claim check (R107) -/

/-- One check in one pass over the table. -/
theorem checkClaims_eq (table : List Claim) :
    checkClaims table =
      (table.filter fun c => decide (c.remaining ≠ some 1 ∧ c.remaining ≠ some 0)).map Claim.countDown := by
  rw [checkClaims, List.filter_map]
  congr 2
  funext c
  cases hc : c.remaining with
  | none => simp [Claim.expired, Claim.countDown, hc]
  | some t =>
    simp only [Function.comp_apply, Claim.expired, Claim.countDown, hc, Option.map_some]
    rw [Bool.eq_iff_iff]
    simp only [Bool.not_eq_true', beq_eq_false_iff_ne, ne_eq, Option.some.injEq, decide_eq_true_eq]
    omega

/-- The checks up to the first expiry remove the claims that expire at it and take the checks from the others. -/
theorem checkClaimsTimes_eq {n : Nat} (hn : 1 ≤ n) {table : List Claim}
    (h : ∀ c ∈ table, ∀ t, c.remaining = some t → n ≤ t) :
    checkClaimsTimes n table = (table.filter fun c => decide (c.remaining ≠ some n)).map
      fun c => { c with remaining := c.remaining.map fun t => t - n } := by
  induction n, hn using Nat.le_induction generalizing table with
  | base =>
    rw [checkClaimsTimes, checkClaimsTimes, checkClaims_eq]
    congr 1
    refine List.filter_congr fun c hc => ?_
    have hne : c.remaining ≠ some 0 := fun h0 => absurd (h c hc 0 h0) (by omega)
    simp [hne]
  | succ n hn ih =>
    have hall : checkClaims table = table.map Claim.countDown := by
      rw [checkClaims_eq, List.filter_eq_self.2 fun c hc => ?_]
      have h1 : c.remaining ≠ some 1 := fun h1 => absurd (h c hc 1 h1) (by omega)
      have h0 : c.remaining ≠ some 0 := fun h0 => absurd (h c hc 0 h0) (by omega)
      simp [h0, h1]
    have hnext : ∀ c ∈ table.map Claim.countDown, ∀ t, c.remaining = some t → n ≤ t := by
      intro c hc t ht
      obtain ⟨d, hd, rfl⟩ := List.mem_map.1 hc
      obtain ⟨u, hu, rfl⟩ := Option.map_eq_some_iff.1 ht
      have := h d hd u hu
      omega
    rw [checkClaimsTimes, hall, ih hnext, List.filter_map, List.map_map]
    have hfilter : (table.filter ((fun c => decide (c.remaining ≠ some n)) ∘ Claim.countDown)) =
        table.filter fun c => decide (c.remaining ≠ some (n + 1)) := by
      refine List.filter_congr fun c hc => ?_
      cases hr : c.remaining with
      | none => simp [Claim.countDown, hr]
      | some t =>
        have := h c hc t hr
        simp only [Function.comp_apply, Claim.countDown, hr, Option.map_some, ne_eq, Option.some.injEq]
        exact decide_eq_decide.2 (by omega)
    rw [hfilter]
    refine List.map_congr_left fun c _ => ?_
    cases hr : c.remaining with
    | none => simp [Claim.countDown, hr]
    | some t => simp [Claim.countDown, hr, Nat.sub_sub, Nat.add_comm 1 n]

theorem checksToExpiry_eq {n : Nat} (hn : 1 ≤ n) {table : List Claim} (hmem : ∃ c ∈ table, c.remaining = some n)
    (h : ∀ c ∈ table, ∀ t, c.remaining = some t → n ≤ t) : checksToExpiry table = n := by
  have hlowest : lowest (table.filterMap Claim.remaining) = some n := by
    have hn_mem : n ∈ table.filterMap Claim.remaining := List.mem_filterMap.2 hmem
    cases hl : lowest (table.filterMap Claim.remaining) with
    | none => simp [lowest_none.1 hl] at hn_mem
    | some m =>
      obtain ⟨hm, hle⟩ := lowest_spec hl
      obtain ⟨c, hc, hcm⟩ := List.mem_filterMap.1 hm
      rw [le_antisymm (hle n hn_mem) (h c hc m hcm)]
  simp only [checksToExpiry, hlowest]
  omega

/-- Settles O33: a check in one pass, and the checks to the first expiry by induction on their number. -/
theorem claimChecksCountDownAndExpire : Obligations.ClaimChecksCountDownAndExpire := by
  unfold Obligations.ClaimChecksCountDownAndExpire
  intro s hs
  refine ⟨?_, fun n hn hmem h => ?_, fun h => ?_⟩
  · have hexec : exec .claimCheck s = .next { s with claims := ⟨checkClaims s.claims.table, 0⟩ } :=
      congrArg Host.Outcome.next (if_pos hs)
    rw [hexec, checkClaims_eq]
    rfl
  · have hexec : exec .claimExpiry s = .next { s with claims := ⟨checkClaimsTimes n s.claims.table, 0⟩ } := by
      have hcount := checksToExpiry_eq hn hmem h
      refine congrArg Host.Outcome.next ?_
      simp only [hcount, hs]
      exact if_pos (by simpa using Nat.pos_iff_ne_zero.1 hn)
    rw [hexec, checkClaimsTimes_eq hn h]
  · have hcount : checksToExpiry s.claims.table = 0 := by
      have hnil : s.claims.table.filterMap Claim.remaining = [] := List.filterMap_eq_nil_iff.2 h
      simp [checksToExpiry, hnil, lowest]
    refine congrArg Host.Outcome.next ?_
    simp [hcount]

/-! ### The claim summary (R111) -/

theorem mem_eligibleLevels {plan : Plan} {table : List Claim} {z n : Nat} {k : ClaimKind} :
    n ∈ eligibleLevels plan table z k ↔ ∃ c ∈ table, c.eligible plan z = true ∧ c.kind = k ∧ c.level = n := by
  simp [eligibleLevels, and_assoc]

theorem highest_eq_some {l : List Nat} {x : Nat} : highest l = some x ↔ x ∈ l ∧ ∀ y ∈ l, y ≤ x := by
  refine ⟨highest_spec, fun ⟨hx, hle⟩ => ?_⟩
  cases h : highest l with
  | none => simp [highest_none.1 h] at hx
  | some y =>
    obtain ⟨hy, hle'⟩ := highest_spec h
    rw [le_antisymm (hle y hy) (hle' x hx)]

/-- Settles O34: the summary through the levels of the eligible claims of each kind. -/
theorem summaryTakesHighestAndLowest : Obligations.SummaryTakesHighestAndLowest := by
  unfold Obligations.SummaryTakesHighestAndLowest
  intro plan table z
  refine ⟨Claim.eligible_iff plan z, fun f => ?force, ?noForce, fun c hc he hk => ?floorAbove, ?floorHeld,
    fun c hc he hk => ?capBelow, ?capHeld⟩
  case force =>
    rw [summaryOf, highest_eq_some, mem_eligibleLevels]
    refine and_congr_right fun _ => ⟨fun h c hc he hk => h _ (mem_eligibleLevels.2 ⟨c, hc, he, hk, rfl⟩), fun h y hy => ?_⟩
    obtain ⟨c, hc, he, hk, rfl⟩ := mem_eligibleLevels.1 hy
    exact h c hc he hk
  case noForce =>
    rw [summaryOf, highest_none, List.eq_nil_iff_forall_not_mem]
    refine ⟨fun h ⟨c, hc, he, hk⟩ => h c.level (mem_eligibleLevels.2 ⟨c, hc, he, hk, rfl⟩), fun h y hy => ?_⟩
    obtain ⟨c, hc, he, hk, -⟩ := mem_eligibleLevels.1 hy
    exact h ⟨c, hc, he, hk⟩
  case floorAbove =>
    have hmem := mem_eligibleLevels.2 ⟨c, hc, he, hk, rfl⟩
    cases hf : highest (eligibleLevels plan table z .floor) with
    | none => simp [highest_none.1 hf] at hmem
    | some f => simpa [summaryOf, hf] using (highest_spec hf).2 _ hmem
  case floorHeld =>
    cases hf : highest (eligibleLevels plan table z .floor) with
    | none => left; simp [summaryOf, hf]
    | some f => right; simpa [summaryOf, hf] using mem_eligibleLevels.1 (highest_spec hf).1
  case capBelow =>
    have hmem := mem_eligibleLevels.2 ⟨c, hc, he, hk, rfl⟩
    cases hf : lowest (eligibleLevels plan table z .cap) with
    | none => simp [lowest_none.1 hf] at hmem
    | some f => simpa [summaryOf, hf] using (lowest_spec hf).2 _ hmem
  case capHeld =>
    cases hf : lowest (eligibleLevels plan table z .cap) with
    | none =>
      right
      refine ⟨by simp [summaryOf, hf], fun ⟨c, hc, he, hk⟩ => ?_⟩
      have hmem := mem_eligibleLevels.2 ⟨c, hc, he, hk, rfl⟩
      simp [lowest_none.1 hf] at hmem
    | some f => left; simpa [summaryOf, hf] using mem_eligibleLevels.1 (lowest_spec hf).1

/-! ### The invariant of the table -/

theorem State.clock_table (s : State) : s.clock.claims.table = s.claims.table := by
  have h : s.claims.clock.1.table = s.claims.table := by
    unfold ClaimTable.clock
    split <;> rfl
  unfold State.clock
  split
  · rfl
  · rfl
  · exact h

theorem Claim.countDown_sound {c : Claim} (h : ClaimSound c) (hlives : c.countDown.expired = false) :
    ClaimSound c.countDown := by
  obtain ⟨hid, hlevel, htime, hkind⟩ := h
  have hnone : c.countDown.remaining = none ↔ c.remaining = none := by simp [countDown]
  refine ⟨hid, hlevel, ?_, hkind.imp_right fun hk => ⟨hk.1, fun hn => hk.2 (hnone.1 hn)⟩⟩
  cases hr : c.remaining with
  | none => exact .inl (hnone.2 hr)
  | some t =>
    right
    simp only [expired, countDown, hr, Option.map_some, beq_eq_false_iff_ne, ne_eq, Option.some.injEq] at hlives
    simp only [hr, Claim.time, Option.getD_some, reduceCtorEq, false_or] at htime
    simp only [Claim.time, countDown, hr, Option.map_some, Option.getD_some]
    omega

theorem Effect.keeps_claimsSound {s t : State} (he : Effect s t) (h : ClaimsSound s) : ClaimsSound t := by
  have hsub : ∀ table : List Claim, table.Sublist s.claims.table →
      table.length ≤ 16 ∧ (table.map Claim.key).Nodup ∧ ∀ c ∈ table, ClaimSound c := fun table hs =>
    ⟨hs.length_le.trans h.1, h.2.1.sublist (hs.map _), fun c hc => h.2.2 c (hs.mem hc)⟩
  obtain ⟨hlen, hkeys, hsound⟩ := h
  cases he with
  | claim l fields c table parsed stored =>
    have hc := parseClaim_sound parsed
    rcases storeClaim_cases s.claims.table c with ⟨-, hst⟩ | ⟨hheld, hroom, hst⟩ | ⟨-, -, hst⟩ <;> rw [hst] at stored
    · obtain rfl := Option.some.inj stored
      refine ⟨by simpa [renewClaim] using hlen, ?_, fun x hx => ?_⟩
      · simpa [renewClaim_keys] using hkeys
      · obtain ⟨y, hy, rfl⟩ := List.mem_map.1 hx
        split
        · exact hc
        · exact hsound y hy
    · obtain rfl := Option.some.inj stored
      refine ⟨by simpa using hroom, ?_, fun x hx => ?_⟩
      · have hnot : c.key ∉ s.claims.table.map Claim.key := fun hm => by simp [heldClaim_iff_key.2 hm] at hheld
        simpa [List.nodup_append, hkeys] using fun a ha heq => hnot (List.mem_map.2 ⟨a, ha, heq⟩)
      · rcases List.mem_append.1 hx with hx | hx
        · exact hsound x hx
        · rw [List.mem_singleton.1 hx]
          exact hc
    · exact absurd stored (by simp)
  | claimsLeave stays => exact hsub _ List.filter_sublist
  | claimCheck =>
    have hmap : (s.claims.table.map Claim.countDown).map Claim.key = s.claims.table.map Claim.key := by
      rw [List.map_map]
      rfl
    have hfilter : (checkClaims s.claims.table).Sublist (s.claims.table.map Claim.countDown) := List.filter_sublist
    refine ⟨?_, ?_, fun x hx => ?_⟩
    · exact hfilter.length_le.trans (by simpa using hlen)
    · exact (hmap ▸ hkeys : ((s.claims.table.map Claim.countDown).map Claim.key).Nodup).sublist (hfilter.map _)
    · obtain ⟨hmem, hlives⟩ := List.mem_filter.1 hx
      obtain ⟨c, hc, rfl⟩ := List.mem_map.1 hmem
      exact Claim.countDown_sound (hsound c hc) (by simpa using hlives)
  | held m => exact hsub [] (List.nil_sublist _)
  | startUp address rate => exact hsub [] (List.nil_sublist _)
  | clock =>
    unfold ClaimsSound
    rw [State.clock_table]
    exact ⟨hlen, hkeys, hsound⟩
  | _ => exact ⟨hlen, hkeys, hsound⟩

/-- Settles O56: the table changes by a claim stored, claims that leave, a check, a reset and a start-up alone. -/
theorem everyStepKeepsClaimsSound : Obligations.EveryStepKeepsClaimsSound := by
  unfold Obligations.EveryStepKeepsClaimsSound
  exact fun s t hs h => step_keeps Effect.keeps_claimsSound h hs

end Sys2Proof.Machine
end

section
/-! PROOFS. The zone level engine (04_zone_targets, 06_applied_levels_and_ramping). -/

namespace Sys2Proof.Machine

/-! ### The curve lookup (R73) -/

/-- The order of a valid curve: luminances rise, demands do not fall. -/
abbrev Breakpoint.Precedes (a b : Breakpoint) : Prop := a.lum < b.lum ∧ a.demand ≤ b.demand

theorem curveLookup_cons_cons (p q : Breakpoint) (rest : List Breakpoint) (lum : Nat) :
    curveLookup (p :: q :: rest) lum =
      if lum < p.lum then p.demand
      else if lum < q.lum then p.demand + ceilDiv ((q.demand - p.demand) * (lum - p.lum)) (q.lum - p.lum)
      else curveLookup (q :: rest) lum := by
  simp only [curveLookup, lookupFrom]
  split_ifs <;> rfl

/-- From the second breakpoint on, the first is of no account. -/
theorem curveLookup_cons {p q : Breakpoint} {rest : List Breakpoint} {lum : Nat} (hpq : p.lum < q.lum)
    (h : q.lum ≤ lum) : curveLookup (p :: q :: rest) lum = curveLookup (q :: rest) lum := by
  rw [curveLookup_cons_cons, if_neg (by omega), if_neg (by omega)]

theorem curveLookup_below {p : Breakpoint} {rest : List Breakpoint} {lum : Nat} (h : lum < p.lum) :
    curveLookup (p :: rest) lum = p.demand := if_pos h

/-- No breakpoint of a chain is below its first. -/
theorem Breakpoint.le_of_isChain {p b : Breakpoint} {rest : List Breakpoint} (h : (p :: rest).IsChain Breakpoint.Precedes)
    (hb : b ∈ p :: rest) : p.lum ≤ b.lum ∧ p.demand ≤ b.demand := by
  induction rest generalizing p with
  | nil =>
    obtain rfl := List.mem_singleton.1 hb
    exact ⟨le_rfl, le_rfl⟩
  | cons q rest ih =>
    obtain ⟨hpq, hrest⟩ := List.isChain_cons_cons.1 h
    rcases List.mem_cons.1 hb with rfl | hb
    · exact ⟨le_rfl, le_rfl⟩
    · obtain ⟨hlum, hdemand⟩ := ih hrest hb
      exact ⟨by omega, by omega⟩

theorem curveLookup_above {c : List Breakpoint} {last : Breakpoint} {lum : Nat} (h : c.IsChain Breakpoint.Precedes)
    (hlast : c.getLast? = some last) (hlum : last.lum ≤ lum) : curveLookup c lum = last.demand := by
  induction c with
  | nil => simp at hlast
  | cons p rest ih =>
    cases rest with
    | nil =>
      obtain rfl : p = last := by simpa using hlast
      simp [curveLookup, lookupFrom]
    | cons q rest =>
      obtain ⟨hpq, hrest⟩ := List.isChain_cons_cons.1 h
      rw [List.getLast?_cons_cons] at hlast
      have hq := (Breakpoint.le_of_isChain hrest (List.mem_of_getLast? hlast)).1
      rw [curveLookup_cons hpq.1 (by omega), ih hrest hlast]

theorem curveLookup_between {before after : List Breakpoint} {p q : Breakpoint} {lum : Nat}
    (h : (before ++ p :: q :: after).IsChain Breakpoint.Precedes) (hp : p.lum ≤ lum) (hq : lum < q.lum) :
    curveLookup (before ++ p :: q :: after) lum =
      p.demand + ceilDiv ((q.demand - p.demand) * (lum - p.lum)) (q.lum - p.lum) := by
  induction before with
  | nil => rw [List.nil_append, curveLookup_cons_cons, if_neg (by omega), if_pos hq]
  | cons b before ih =>
    obtain ⟨d, more, hmore⟩ : ∃ d more, before ++ p :: q :: after = d :: more := by cases before <;> exact ⟨_, _, rfl⟩
    rw [List.cons_append, hmore] at h ⊢
    obtain ⟨hbd, hrest⟩ := List.isChain_cons_cons.1 h
    have hd := (Breakpoint.le_of_isChain hrest (b := p) (by simp [← hmore])).1
    rw [curveLookup_cons hbd.1 (by omega), ← hmore, ih (hmore ▸ hrest)]

/-- A part of a demand step never exceeds the step. -/
theorem ceilDiv_mul_le {a x y : Nat} (h : x ≤ y) : ceilDiv (a * x) y ≤ a := by
  rcases Nat.eq_zero_or_pos y with rfl | hy
  · simp [ceilDiv]
  · exact (ceilDiv_le_iff hy).2 (Nat.mul_le_mul_left a h)

theorem curveLookup_bounds {c : List Breakpoint} {first last : Breakpoint} (lum : Nat)
    (h : c.IsChain Breakpoint.Precedes) (hfirst : c.head? = some first) (hlast : c.getLast? = some last) :
    first.demand ≤ curveLookup c lum ∧ curveLookup c lum ≤ last.demand := by
  induction c generalizing first with
  | nil => simp at hfirst
  | cons p rest ih =>
    obtain rfl : p = first := by simpa using hfirst
    cases rest with
    | nil =>
      obtain rfl : p = last := by simpa using hlast
      simp [curveLookup, lookupFrom]
    | cons q rest =>
      obtain ⟨hpq, hrest⟩ := List.isChain_cons_cons.1 h
      rw [List.getLast?_cons_cons] at hlast
      obtain ⟨hlow, hhigh⟩ := ih hrest rfl hlast
      have hq := (Breakpoint.le_of_isChain hrest (List.mem_of_getLast? hlast)).2
      rw [curveLookup_cons_cons]
      split
      · exact ⟨le_rfl, by omega⟩
      · split
        · have hstep : ceilDiv ((q.demand - p.demand) * (lum - p.lum)) (q.lum - p.lum) ≤ q.demand - p.demand :=
            ceilDiv_mul_le (by omega)
          exact ⟨by omega, by omega⟩
        · exact ⟨by omega, hhigh⟩

/-- Settles O23: the lookup below, above and between breakpoints, by induction on the breakpoints passed over. -/
theorem curveLookupFollowsTheSegments : Obligations.CurveLookupFollowsTheSegments := by
  unfold Obligations.CurveLookupFollowsTheSegments
  intro c lum hchain
  refine ⟨fun first rest hc hlum => ?_, fun last hlast hlum => curveLookup_above hchain hlast hlum,
    fun before p q after hc hp hq => ?_, fun first last hfirst hlast => curveLookup_bounds lum hchain hfirst hlast⟩
  · rw [hc, curveLookup_below hlum]
  · subst hc
    have hwidth : 0 < q.lum - p.lum := by omega
    exact ⟨_, curveLookup_between hchain hp hq, le_ceilDiv_mul hwidth, fun e => (ceilDiv_le_iff hwidth).2⟩

/-! ### Entrances, day and night (R76, R79) -/

/-- Settles O24: the decision of each day/night state over the two entrances. -/
theorem dayAndNightFollowTheEntrances : Obligations.DayAndNightFollowTheEntrances := by
  unfold Obligations.DayAndNightFollowTheEntrances
  refine ⟨fun p => by cases p <;> simp [Direction.isEntrance], fun g d lum => ⟨?_, ?_⟩⟩
  · have hall : (d.entrances.all fun p => decide (lum.get p < g.nightThreshold)) = true ↔
        ∀ p, d.isEntrance p = true → lum.get p < g.nightThreshold := by
      rw [forall_portal]
      cases ha : d.isEntrance .a <;> cases hb : d.isEntrance .b <;> simp [Direction.entrances, ha, hb]
    unfold settleDayNight
    by_cases hd : d = .closed
    · simp [hd]
    · simp only [← hall, ne_eq, hd, not_false_eq_true, true_and]
      split <;> simp_all
  · have hany : (d.entrances.any fun p => decide (g.nightThreshold + g.nightBand ≤ lum.get p)) = true ↔
        ∃ p, d.isEntrance p = true ∧ g.nightThreshold + g.nightBand ≤ lum.get p := by
      simp only [List.any_eq_true, decide_eq_true_eq]
      refine exists_congr fun p => and_congr_left fun _ => ?_
      cases p <;> simp [Direction.entrances]
    unfold settleDayNight
    by_cases hd : d = .closed
    · simp [hd]
    · simp only [← hany, ne_eq, hd, not_false_eq_true, true_and]
      split <;> simp_all

/-! ### Stages 4 to 9 (R81 to R91) -/

/-- Settles O25: the table by the zone's kind. -/
theorem baseTargetsFollowTheTable : Obligations.BaseTargetsFollowTheTable := by
  unfold Obligations.BaseTargetsFollowTheTable
  intro v z r p
  refine ⟨fun hk => ⟨if_pos hk, if_pos hk⟩, fun hd hk => ?_, fun hd hk => ?_, fun hd hk hp => ?_, fun hd hk hp => ?_⟩
  · unfold PassView.baseTarget
    cases h : r.kind with
    | unused => exact absurd h hk
    | _ => simp only [if_pos hd]
  · simp only [PassView.baseTarget, hk, if_neg hd]
  · rcases hk with hk | hk <;>
      simp only [PassView.baseTarget, hk, if_neg hd, PassView.atEntrance, PassView.portalLevel, hp]
  · simp only [PassView.baseTarget, hk, if_neg hd, PassView.atEntrance, PassView.portalLevel, hp]

theorem planClamp_eq {r : ZoneRecord} (h : r.floor ≤ r.ceiling) (t : Nat) :
    planClamp r t = max r.floor (min t r.ceiling) := by
  unfold planClamp
  split_ifs <;> omega

/-- Settles O26: the stages one after another, each from the target entering it. -/
theorem stagesFollowTheirOrder : Obligations.StagesFollowTheirOrder := by
  unfold Obligations.StagesFollowTheirOrder
  rintro v z r n k t5 t6 t7 t8 m hkind hclamp rfl rfl rfl rfl rfl ht7 rfl
  have hcomp : compensates r (v.plan.channelCount z) (faultCount v.plan v.faults z) =
      decide (r.compensation = true ∧ 0 < faultCount v.plan v.faults z
        ∧ faultCount v.plan v.faults z < v.plan.channelCount z) := by
    simp [compensates, Bool.and_assoc]
  have hplan : v.planTarget z r = max r.floor
      (min (if r.compensation = true ∧ 0 < faultCount v.plan v.faults z
          ∧ faultCount v.plan v.faults z < v.plan.channelCount z
        then min 1000 (ceilDiv (v.baseTarget r * v.plan.channelCount z)
          (v.plan.channelCount z - faultCount v.plan v.faults z))
        else v.baseTarget r) r.ceiling) := by
    simp only [PassView.planTarget, planClamp_eq hclamp, compensate, hcomp, decide_eq_true_eq]
  rw [← hplan] at ht7 ⊢
  obtain rfl : t7 = applySummary (summaryOf v.plan v.table z) (v.planTarget z r) := ht7
  refine ⟨?_, ?_, ?_, ?_⟩
  · rw [PassView.target, if_neg hkind]
    simp [fireLevelled, backupCapped]
  · rw [PassView.flags, if_neg hkind]
    have hnone : (summaryOf v.plan v.table z).force.isNone = decide ((summaryOf v.plan v.table z).force = none) := by
      rw [Bool.eq_iff_iff]
      simp
    simp [flagClaimedFloor, flagClaimedCap, flagForced, flagCapped, hcomp, hnone, Bool.and_assoc]
  · simp only [Plan.channelCount]
    congr 2
    funext c
    rw [Bool.eq_iff_iff]
    simp
  · simp only [faultCount]
    congr 2
    funext x
    rw [Bool.eq_iff_iff]
    simp

/-! ### The level pass (R71, R116, R128) -/

theorem PassView.zonesPass_getElem? {v : PassView} {zones : List ZoneLevel} {z : Nat} {r : ZoneRecord} {x : ZoneLevel}
    (hr : v.plan.zones[z]? = some r) (hx : zones[z]? = some x) :
    (v.zonesPass zones)[z]? = some (v.zonePass z r x) := by
  simp [zonesPass, List.getElem?_zipWith, List.getElem?_zipIdx, hr, hx]

theorem writePreloads_getElem? {zones : List ZoneLevel} {records : List ChannelRecord} {chans : List ChannelOut} {c : Nat}
    {r : ChannelRecord} {o : ChannelOut} (hr : records[c]? = some r) (ho : chans[c]? = some o) :
    (writePreloads zones records chans)[c]? = some { o with preload := preloadFor zones r } := by
  simp [writePreloads, List.getElem?_zipWith, hr, ho]

theorem exec_levelPass {s : State} (h : s.started = true) : exec .levelPass s = .next s.passed :=
  congrArg Host.Outcome.next (if_pos h)

theorem interiorLevel_eq (g : General) (n : DayNight) :
    interiorLevel g n = if n = .day then g.dayLevel else g.nightLevel := by cases n <;> rfl

/-- The zone level records after a pass. -/
theorem State.passed_zone {s : State} {z : Nat} {r : ZoneRecord} {x : ZoneLevel}
    (hr : s.plans.running.zones[z]? = some r) (hx : s.engine.zones[z]? = some x) :
    s.passed.engine.zones[z]? = some (s.passView.zonePass z r x) := PassView.zonesPass_getElem? hr hx

/-- Settles O27: the view, each zone's record and each channel's preload after a pass. -/
theorem levelPassStepsEveryZone : Obligations.LevelPassStepsEveryZone := by
  unfold Obligations.LevelPassStepsEveryZone
  intro s hs
  refine ⟨_, _, exec_levelPass hs, ?_, fun z r x hr hx => ⟨_, PassView.zonesPass_getElem? hr hx, rfl, rfl, rfl, ?_⟩,
    fun c r o hr ho => ?_⟩
  · rw [State.passView, interiorLevel_eq]
    rfl
  · simp only [PassView.zonePass, stepApplied, Bool.and_eq_true, decide_eq_true_eq]
    rfl
  · refine ⟨fun hunbound => ?_, fun z y hz hy => ?_⟩
    · rw [writePreloads_getElem? hr ho]
      simp [preloadFor, hunbound]
    · rw [writePreloads_getElem? hr ho]
      simp [preloadFor, hz, hy]

/-- The applied level moves by no more than a step, and not past the target. -/
theorem stepApplied_ramp {latch backup : Bool} {cap rise fall target applied : Nat} (hlatch : latch = false)
    (hcap : ¬(backup = true ∧ cap < applied)) :
    stepApplied false latch backup cap rise fall target applied ≤ applied + rise
      ∧ applied ≤ stepApplied false latch backup cap rise fall target applied + fall
      ∧ (applied ≤ target → stepApplied false latch backup cap rise fall target applied ≤ target)
      ∧ (target ≤ applied → target ≤ stepApplied false latch backup cap rise fall target applied) := by
  have hcap' : (backup && decide (cap < applied)) = false := by simpa using hcap
  simp only [stepApplied, hlatch, hcap', Bool.false_eq_true, if_false]
  split_ifs <;> omega

/-- Settles O28: the step of one zone, by the first case of R116 that applies. -/
theorem rampsAreBoundedAndFireIsImmediate : Obligations.RampsAreBoundedAndFireIsImmediate := by
  unfold Obligations.RampsAreBoundedAndFireIsImmediate
  intro s t z r x y hs hexec hr hx hy
  obtain rfl := Host.Outcome.next.inj ((exec_levelPass hs).symm.trans hexec)
  obtain rfl := Option.some.inj ((State.passed_zone hr hx).symm.trans hy)
  refine ⟨fun hseed hlatch hcap => ?_, fun hlatch hkind => ?_, fun hkind hseed => ?_⟩
  · simp only [PassView.zonePass, hseed]
    exact stepApplied_ramp hlatch hcap
  · have htarget : s.passView.target z r = s.plans.running.general.fireLevel := by
      rw [PassView.target, if_neg hkind]
      exact if_pos hlatch
    have hview : s.passView.latch = true := hlatch
    simp [PassView.zonePass, stepApplied, htarget, hview]
  · simp [PassView.zonePass, stepApplied, hseed, PassView.target, hkind]

/-! ### SET DIRECTION (R77) -/

theorem Direction.ofCode_of_unlisted {n : Nat} (h : 3 < n) : Direction.ofCode n = none := by
  unfold Direction.ofCode
  split
  case h_5 => rfl
  all_goals omega

theorem takeSetDirection_listed (d : Direction) (s : State) :
    takeSetDirection .s [u8 d.code] s = ({ s with engine := { s.engine with direction := d } }, .plain .done) := by
  cases d <;> rfl

theorem takeSetDirection_unlisted {b : Byte} (h : 3 < b.toNat) (s : State) :
    takeSetDirection .s [b] s = (s, .plain .badField) := by
  simp [takeSetDirection, Direction.ofCode_of_unlisted h]

theorem takeSetDirection_length {fields : List Byte} (h : fields.length ≠ 1) (s : State) :
    takeSetDirection .s fields s = (s, .plain .badField) := by
  unfold takeSetDirection
  split
  · exact absurd rfl ‹Line.s ≠ Line.s›
  · split
    · exact absurd rfl h
    · rfl

theorem takeSetDirection_otherLine {l : Line} (h : l ≠ .s) (fields : List Byte) (s : State) :
    takeSetDirection l fields s = (s, .plain .refusedLine) := if_pos h

/-- A broadcast SET DIRECTION reaches its owner on every line. -/
theorem exec_setDirection_broadcast {s t : State} {l : Line} {fields : List Byte} {a : Answer} (h : s.Hears l)
    (hf : fields.length ≤ 59) (howner : takeSetDirection l fields (s.addressed l true) = (t, a)) :
    exec (.setDirection l true fields) s = .next (t.listening l) :=
  exec_broadcast .setDirection h hf (by simp only [dispatchBroadcast, Kind.ofCode_code, howner])

/-- Settles O29: the owner by line, code and length, addressed and broadcast. -/
theorem setDirectionActsFromLineS : Obligations.SetDirectionActsFromLineS := by
  unfold Obligations.SetDirectionActsFromLineS
  intro s
  refine ⟨fun h d => ?_, fun h b hb => ?_, fun h d => ?_, fun h b hb => ?_, fun fields hlen hf => ⟨fun h => ?_, fun h => ?_⟩,
    fun l fields hl hf => ⟨fun h => ?_, fun h => ?_⟩⟩
  · exact exec_reached .setDirection h (by simp) rfl (takeSetDirection_listed d _)
  · exact exec_repliedOnly .setDirection h (by simp) rfl (takeSetDirection_unlisted hb _)
  · exact exec_setDirection_broadcast h (by simp) (takeSetDirection_listed d _)
  · exact exec_setDirection_broadcast h (by simp) (takeSetDirection_unlisted hb _)
  · exact exec_repliedOnly .setDirection h hf rfl (takeSetDirection_length hlen _)
  · exact exec_setDirection_broadcast h hf (takeSetDirection_length hlen _)
  · exact exec_refusedLine .setDirection h hf (by simp [Kind.allowed, hl])
  · exact exec_setDirection_broadcast h hf (takeSetDirection_otherLine hl fields _)

/-! ### Levels within 0 to 1000 (R91, R115) -/

theorem summaryOf_le {plan : Plan} {table : List Claim} (z : Nat) (h : ∀ c ∈ table, c.level ≤ 1000) :
    (∀ f, (summaryOf plan table z).force = some f → f ≤ 1000) ∧ (summaryOf plan table z).floor ≤ 1000
      ∧ (summaryOf plan table z).cap ≤ 1000 := by
  have hlevels : ∀ k, ∀ n ∈ eligibleLevels plan table z k, n ≤ 1000 := by
    intro k n hn
    obtain ⟨c, hc, -, -, rfl⟩ := mem_eligibleLevels.1 hn
    exact h c hc
  refine ⟨fun f hf => hlevels .force f (highest_spec hf).1, ?_, ?_⟩
  · cases hf : highest (eligibleLevels plan table z .floor) with
    | none => simp [summaryOf, hf]
    | some f => simpa [summaryOf, hf] using hlevels .floor f (highest_spec hf).1
  · cases hc : lowest (eligibleLevels plan table z .cap) with
    | none => simp [summaryOf, hc]
    | some c => simpa [summaryOf, hc] using hlevels .cap c (lowest_spec hc).1

/-- With claims at 1000 at most and such a fire level, no target is above 1000. -/
theorem PassView.target_le {v : PassView} (hfire : v.plan.general.fireLevel ≤ 1000)
    (hclaims : ∀ c ∈ v.table, c.level ≤ 1000) (z : Nat) (r : ZoneRecord) : v.target z r ≤ 1000 := by
  obtain ⟨hforce, hfloor, hcap⟩ := summaryOf_le (plan := v.plan) z hclaims
  have hsummary : ∀ t, applySummary (summaryOf v.plan v.table z) t ≤ 1000 := by
    intro t
    unfold applySummary
    split
    · exact hforce _ ‹_›
    · omega
  have hbackup : ∀ t, t ≤ 1000 → backupCapped v.backup v.latch v.plan.general.backupCap t ≤ 1000 := by
    intro t ht
    unfold backupCapped
    split_ifs <;> omega
  unfold target fireLevelled
  split_ifs
  · omega
  · exact hfire
  · exact hbackup _ (hsummary _)

/-- Every member of two lists joined pairwise comes from a pair of members. -/
theorem exists_of_mem_zipWith {α β γ : Type} {f : α → β → γ} {xs : List α} {ys : List β} {z : γ}
    (h : z ∈ List.zipWith f xs ys) : ∃ x ∈ xs, ∃ y ∈ ys, f x y = z := by
  induction xs generalizing ys with
  | nil => simp at h
  | cons x xs ih =>
    cases ys with
    | nil => simp at h
    | cons y ys =>
      rcases List.mem_cons.1 h with rfl | h
      · exact ⟨x, List.mem_cons_self .., y, List.mem_cons_self .., rfl⟩
      · obtain ⟨a, ha, b, hb, hab⟩ := ih h
        exact ⟨a, List.mem_cons_of_mem _ ha, b, List.mem_cons_of_mem _ hb, hab⟩

theorem ZoneEngine.clock_zones (e : ZoneEngine) : e.clock.1.zones = e.zones := by
  unfold ZoneEngine.clock
  split
  · split <;> rfl
  · rfl

theorem State.clock_zones (s : State) : s.clock.engine.zones = s.engine.zones := by
  unfold State.clock
  split
  · rfl
  · rfl
  · exact ZoneEngine.clock_zones s.engine

theorem ZoneEngine.started_levels (g : General) :
    ∀ x ∈ (ZoneEngine.started g).zones, x.target ≤ 1000 ∧ x.applied ≤ 1000 := by
  intro x hx
  rw [List.eq_of_mem_replicate hx]
  exact ⟨Nat.zero_le _, Nat.zero_le _⟩

theorem Effect.keeps_levelsSound {s t : State} (he : Effect s t) (h : PlansSound s ∧ ClaimsSound s ∧ LevelsSound s) :
    PlansSound t ∧ ClaimsSound t ∧ LevelsSound t := by
  obtain ⟨hplans, hclaims, hlevels⟩ := h
  refine ⟨he.keeps_plansSound hplans, he.keeps_claimsSound hclaims, ?_⟩
  cases he with
  | pass =>
    intro y hy
    obtain ⟨r, -, x, hx, rfl⟩ := exists_of_mem_zipWith hy
    obtain ⟨hgeneral, -⟩ := (Plan.inRange_iff _).1 hplans.1
    obtain ⟨-, -, -, -, -, -, -, -, -, -, -, hfire, -⟩ := (General.inRange_iff _).1 hgeneral
    have htarget : s.passView.target r.2 r.1 ≤ 1000 :=
      PassView.target_le hfire (fun c hc => (hclaims.2.2 c hc).2.1) _ _
    have happlied := (hlevels x hx).2
    have hstep := (stepApplied_between x.seeding s.passView.latch s.passView.backup s.passView.plan.general.backupCap
      r.1.rise r.1.fall (s.passView.target r.2 r.1) x.applied).2
    exact ⟨htarget, hstep.trans (by omega)⟩
  | adopt valid =>
    intro y hy
    obtain ⟨r, -, x, hx, rfl⟩ := exists_of_mem_zipWith hy
    unfold ZoneLevel.adopt
    split <;> exact hlevels x hx
  | held m => exact ZoneEngine.started_levels _
  | startUp address rate => exact ZoneEngine.started_levels _
  | clock =>
    unfold LevelsSound
    rw [State.clock_zones]
    exact hlevels
  | _ => exact hlevels

/-- Settles O57: levels change by a pass, an adoption's marks, a reset and a start-up alone. -/
theorem everyStepKeepsLevelsSound : Obligations.EveryStepKeepsLevelsSound := by
  unfold Obligations.EveryStepKeepsLevelsSound
  exact fun s t hplans hclaims hs h => (step_keeps Effect.keeps_levelsSound h ⟨hplans, hclaims, hs⟩).2.2

end Sys2Proof.Machine
end

section
/-! PROOFS. Safety inputs and the supervisor's clears (07_safety_inputs, R163, R191). -/

namespace Sys2Proof.Machine

/-! ### The filters (R134) -/

theorem Filter.sample_same {f : Filter} {x : Bool} (h : x = f.asserted) : f.sample x = ⟨f.asserted, 0⟩ := by
  simp [sample, h]

theorem Filter.sample_differs {f : Filter} {x : Bool} (h : x ≠ f.asserted) (hrun : f.run < 7) :
    f.sample x = ⟨f.asserted, f.run + 1⟩ := by
  simp [sample, h, hrun]

theorem Filter.sample_takes {f : Filter} {x : Bool} (h : x ≠ f.asserted) (hrun : 7 ≤ f.run) : f.sample x = ⟨x, 0⟩ := by
  simp [sample, h, Nat.not_lt.2 hrun]

theorem Filter.sample_run_le (f : Filter) (x : Bool) : (f.sample x).run ≤ 7 := by
  rcases f.sample_cases x with ⟨-, hs⟩ | ⟨-, hrun, hs⟩ | ⟨-, -, hs⟩ <;> rw [hs]
  · exact Nat.zero_le _
  · exact hrun
  · exact Nat.zero_le _

/-- Up to seven differing samples in a row are counted. -/
theorem Filter.iterate_sample {f : Filter} {x : Bool} (h : x ≠ f.asserted) (hrun : f.run = 0) {j : Nat} (hj : j ≤ 7) :
    (fun g : Filter => g.sample x)^[j] f = ⟨f.asserted, j⟩ := by
  induction j with
  | zero => rw [Function.iterate_zero, id, ← hrun]
  | succ j ih =>
    rw [Function.iterate_succ_apply', ih (by omega)]
    exact Filter.sample_differs h hj

theorem exec_sampleEvent {s : State} (h : s.watching = true) (fireN backupN : Bool) :
    exec (.sampleEvent fireN backupN) s = .next
      { s with pins := { s.pins with fireN := fireN, backupN := backupN }, safety := s.safety.sample fireN backupN } :=
  congrArg Host.Outcome.next (if_pos h)

/-- Settles O35: one sample by its three cases, the run by induction on its length. -/
theorem eighthDifferingSampleTakesTheChange : Obligations.EighthDifferingSampleTakesTheChange := by
  unfold Obligations.EighthDifferingSampleTakesTheChange
  refine ⟨fun f x => ⟨Filter.sample_same, fun h hrun => Filter.sample_differs h (by omega),
      fun h hrun => Filter.sample_takes h hrun.ge, fun _ => f.sample_run_le x⟩,
    fun f x h hrun => ⟨fun j => Filter.iterate_sample h hrun, ?_⟩,
    fun s fireN backupN hw => exec_sampleEvent hw fireN backupN,
    fun s fireN backupN hw => congrArg Host.Outcome.next (if_neg (by simp [hw]))⟩
  rw [Function.iterate_succ_apply', Filter.iterate_sample h hrun le_rfl]
  exact Filter.sample_takes h le_rfl

/-! ### TRIP (R141, R158, R161) -/

theorem SafetyInputs.tripPin_eq (high : Bool) (x : SafetyInputs) :
    x.tripPin high = { x with qualifying := if high = x.trip then some (x.qualifying.getD 0) else none } := by
  unfold tripPin departs
  by_cases h : high = x.trip <;> simp [h]

theorem Stage.releaseTrip_eq (autoResume : Bool) (x : Stage) :
    x.releaseTrip autoResume =
      { x with resume := x.resume || decide (x.state = .tripped ∧ autoResume = true) } := by
  unfold releaseTrip
  by_cases h : x.state = .tripped ∧ autoResume = true <;> simp [h]

/-- Settles O36: the detector at its pin, and the two acceptances in each TRIP state. -/
theorem tripChangesReachTheStage : Obligations.TripChangesReachTheStage := by
  unfold Obligations.TripChangesReachTheStage
  intro s hw
  refine ⟨fun high => ?_, fun ht => congrArg Host.Outcome.next (if_pos (by simp [hw, ht])),
    fun ht => congrArg Host.Outcome.next (if_neg (by simp [ht])), fun ht => ?_,
    fun ht => congrArg Host.Outcome.next (if_neg (by simp [ht]))⟩
  · rw [← SafetyInputs.tripPin_eq]
    simp only [exec, execTripPinChange, hw, if_true]
  · rw [← Stage.releaseTrip_eq]
    exact congrArg Host.Outcome.next (if_pos (by simp [hw, ht]))

/-! ### The supervisor's clears -/

theorem takeAckEvents_of_listed {l : Line} {codes : List Byte} (s : State) (hne : codes ≠ []) (hlen : codes.length ≤ 3)
    (hcodes : ∀ c ∈ codes, c.toNat ≤ 2) (hnodup : codes.Nodup) :
    takeAckEvents l codes s = ({ s with safety := s.safety.acknowledge codes }, .plain .done) :=
  if_pos ⟨List.length_pos_iff.2 hne, hlen, by simpa using hcodes, hnodup⟩

theorem takeAckEvents_of_unlisted {l : Line} {codes : List Byte} (s : State)
    (h : codes = [] ∨ 3 < codes.length ∨ (∃ c ∈ codes, 2 < c.toNat) ∨ ¬codes.Nodup) :
    takeAckEvents l codes s = (s, .plain .badField) := by
  refine if_neg ?_
  rintro ⟨hpos, hlen, hcodes, hnodup⟩
  rcases h with rfl | h | ⟨c, hc, h⟩ | h
  · exact absurd hpos (by simp)
  · omega
  · have hle : c.toNat ≤ 2 := by simpa using List.all_eq_true.1 hcodes c hc
    omega
  · exact h hnodup

theorem SafetyInputs.acknowledge_eq (x : SafetyInputs) (codes : List Byte) :
    x.acknowledge codes =
      { x with
        seenFire := x.seenFire && decide (0 ∉ codes)
        seenBackup := x.seenBackup && decide (1 ∉ codes)
        seenTrip := x.seenTrip && decide (2 ∉ codes) } := by
  simp only [acknowledge, List.contains_eq_mem, ← decide_not]

/-- Settles O37: each clear's owner in each state it depends on. -/
theorem supervisorClears : Obligations.SupervisorClears := by
  unfold Obligations.SupervisorClears
  intro s h
  refine ⟨fun hf => ?_, fun hf => ?_, fun ht => ?_, fun ht hst => ?_, fun ht hst => ?_,
    fun codes hne hlen hcodes hnodup => ?_, fun codes hf hbad => ?_, ?_⟩
  · exact exec_reached .clearFire h (by simp) rfl (by simp [ownerTakes, takeClearFire, hf])
  · exact exec_repliedOnly .clearFire h (by simp) rfl (by simp [ownerTakes, takeClearFire, hf])
  · exact exec_repliedOnly .clearTrip h (by simp) rfl (by simp [ownerTakes, takeClearTrip, ht])
  · exact exec_reached .clearTrip h (by simp) rfl (by simp [ownerTakes, takeClearTrip, ht, hst])
  · exact exec_repliedOnly .clearTrip h (by simp) rfl (by simp [ownerTakes, takeClearTrip, ht, hst])
  · have howner := takeAckEvents_of_listed (l := .s) (s.addressed .s false) hne hlen hcodes hnodup
    rw [SafetyInputs.acknowledge_eq] at howner
    exact exec_reached .ackEvents h (by omega) rfl howner
  · exact exec_repliedOnly .ackEvents h hf rfl (takeAckEvents_of_unlisted (l := .s) _ hbad)
  · refine ⟨_, exec_reached .clearCounts h (by simp) rfl rfl, rfl, fun l => ?_, fun l hl => ?_, rfl, rfl⟩
    · cases l <;> exact ⟨rfl, rfl⟩
    · cases l with
      | s => exact absurd rfl hl
      | a => rfl
      | b => rfl

end Sys2Proof.Machine
end

section
/-! PROOFS. The output stage and fault sensing (08_output_channels, 09_luminaire_fault_sensing). -/

namespace Sys2Proof.Machine

/-! ### A refresh (R150, R151) -/

/-- A channel at a refresh: its record gives the settings, its preload the duty. -/
theorem Stage.refreshed_chan {p : Plan} {x : Stage} {c : Nat} {r : ChannelRecord} {o : ChannelOut}
    (hr : p.channels[c]? = some r) (ho : x.chans[c]? = some o) :
    (x.refreshed p).chans[c]? = some (o.refreshed p.general.pwmPeriod r) := by
  simp [refreshed, List.getElem?_zipWith, hr, ho]

/-- Settles O38: the channels one by one, the stage by the table of R151 step 4. -/
theorem refreshTakesThePlan : Obligations.RefreshTakesThePlan := by
  unfold Obligations.RefreshTakesThePlan
  intro s flt hs
  refine ⟨⟨_, _, _, _, exec_refresh_of_started flt hs, fun c r o hr ho => ⟨Stage.refreshed_chan hr ho, fun f hf => ?_⟩,
    fun hst => ?_, fun hst => ?_, fun hst hres => ?_, fun hst hres => ?_⟩, fun hcount => ?_, fun hcount => ?_⟩
  · have hsampled := sampleFaults_getElem? s.plans.running.general.confirmCount
      (settleStage s.stage.state s.stage.firstLevels s.stage.resume).1 flt hr
      (Stage.refreshed_chan hr ho) hf
    simp only [isSampled_iff] at hsampled
    exact hsampled
  · simp [settleStage, hst]
  · simp [settleStage, hst]
  · simp [settleStage, hst, hres]
  · simp [settleStage, hst, hres]
  · simp only [exec, execPeriodEnd, hs, if_true, if_neg (Nat.not_le.2 hcount)]
  · simp only [exec, execPeriodEnd, execRefresh, hs, if_true, if_pos hcount.ge]

/-! ### Duties (R153, R154) -/

/-- The bracket of the formula is at most 1,000,000 for a record in range and a level in per-mille. -/
theorem duty_bracket_le {lo hi level : Nat} (hlo : lo ≤ hi) (hhi : hi ≤ 1000) (hlevel : level ≤ 1000) :
    lo * 1000 + (hi - lo) * level ≤ 1000000 := by
  have hstep : (hi - lo) * level ≤ (hi - lo) * 1000 := Nat.mul_le_mul_left _ hlevel
  omega

/-- The bound by the period never acts on a record in range. -/
theorem dutyOf_eq {period level : Nat} {r : ChannelRecord} (hlo : r.lo ≤ r.hi) (hhi : r.hi ≤ 1000) (hlevel : level ≤ 1000)
    (hne : level ≠ 0) (hcutoff : r.cutoff ≤ level) :
    dutyOf period r level = ceilDiv (period * (r.lo * 1000 + (r.hi - r.lo) * level)) 1000000 := by
  rw [dutyOf, if_neg (by omega)]
  exact min_eq_right ((ceilDiv_le_iff (by norm_num)).2 (Nat.mul_le_mul_left _ (duty_bracket_le hlo hhi hlevel)))

/-- Settles O39: the least count not below the quotient, by `ceilDiv`. -/
theorem dutyFollowsTheFormula : Obligations.DutyFollowsTheFormula := by
  unfold Obligations.DutyFollowsTheFormula
  intro period level r hlo hhi hlevel
  refine ⟨fun h => if_pos h, fun hne hcutoff => ?_, dutyOf_le period r level, fun hfull hcutoff hhigh => ?_⟩
  · rw [dutyOf_eq hlo hhi hlevel hne hcutoff]
    exact ⟨le_ceilDiv_mul (by norm_num), fun d => (ceilDiv_le_iff (by norm_num)).2⟩
  · have hbracket : r.lo * 1000 + (r.hi - r.lo) * level = 1000000 := by
      rw [hfull]
      omega
    rw [dutyOf_eq hlo hhi hlevel (by omega) (by omega), hbracket, ceilDiv_mul_self (by norm_num)]

/-! ### DIM pins (R155, R156, R158) -/

theorem Polarity.level_eq_high {p : Polarity} {active : Bool} :
    p.level active = .high ↔ (active = true ↔ p = .activeHigh) := by
  cases p <;> cases active <;> decide

theorem Polarity.level_eq_low {p : Polarity} {active : Bool} :
    p.level active = .low ↔ ¬(active = true ↔ p = .activeHigh) := by
  cases p <;> cases active <;> decide

theorem Polarity.level_driven (p : Polarity) (active : Bool) : p.level active = .high ∨ p.level active = .low := by
  rw [level_eq_high, level_eq_low]
  exact em _

/-- Settles O40: the pin of the channel by the stage state. -/
theorem dimPinsFollowTheStage : Obligations.DimPinsFollowTheStage := by
  unfold Obligations.DimPinsFollowTheStage
  intro s n o ho
  have hpin : s.dimPin n = s.stage.pin o := by simp only [State.dimPin, ho]
  rw [hpin]
  refine ⟨fun hst => ?_, fun hst => ?_, fun hst => ?_, fun hst hduty => ?_⟩
  · simp only [Stage.pin, hst]
  · simp only [Stage.pin, hst, Polarity.level_eq_high, beq_iff_eq]
  · simp only [Stage.pin, hst, Polarity.level_eq_low, beq_iff_eq]
  · simp only [Stage.pin, hst, Polarity.level_eq_high]
    refine ⟨by simpa only [Polarity.level_eq_high] using Polarity.level_driven .., fun hal => ?_, fun hal => ?_⟩
    · simp only [ChannelOut.activeAt, hal, decide_eq_true_eq]
    · simp only [ChannelOut.activeAt, hal, decide_eq_true_eq, Nat.sub_le_iff_le_add]

/-! ### CLEAR FAULTS (R174) -/

theorem FaultRecord.cleared_of_not_faulted {f : FaultRecord} (h : f.state ≠ .faulted) : f.cleared = f := if_neg h

theorem FaultRecord.cleared_of_deasserted {f : FaultRecord} (h : f.state = .faulted) (hlast : f.last = some false) :
    f.cleared = ⟨.clear, 0, some false⟩ := by
  simp [cleared, h, hlast]

theorem FaultRecord.cleared_of_asserted {f : FaultRecord} (h : f.state = .faulted) (hlast : f.last = some true) :
    f.cleared = ⟨.suspect, 1, some true⟩ := by
  simp [cleared, h, hlast]

theorem FaultRecord.cleared_not_faulted (f : FaultRecord) : f.cleared.state ≠ .faulted := by
  unfold cleared
  split_ifs <;> simp_all

/-- Whether a channel is named, for a channel number that one character holds. -/
theorem contains_u8_iff {named : List Byte} {c : Nat} (h : c < 256) :
    named.contains (u8 c) = true ↔ ∃ b ∈ named, b.toNat = c := by
  rw [List.contains_iff_mem]
  constructor
  · exact fun hmem => ⟨u8 c, hmem, u8_toNat_of_lt h⟩
  · rintro ⟨b, hb, rfl⟩
    rwa [u8_of_toNat]

/-- The fault records after CLEAR FAULTS. -/
theorem clearedFaults_getElem? {faults : List FaultRecord} {named : Nat → Bool} {c : Nat} {f : FaultRecord}
    (hf : faults[c]? = some f) :
    (faults.zipIdx.map fun x => if named x.2 then x.1.cleared else x.1)[c]? =
      some (if named c then f.cleared else f) := by
  simp [List.getElem?_map, List.getElem?_zipIdx, hf]

/-- The FAULTED records of the named channels are as many as the named channels that are FAULTED. -/
theorem clearedCount_eq {faults : List FaultRecord} {named : List Byte} (hlen : faults.length = 32)
    (hnodup : named.Nodup) :
    (faults.zipIdx.filter fun x => named.contains (u8 x.2) && x.1.state == .faulted).length =
      (named.filter fun c => decide ((faults[c.toNat]?).map FaultRecord.state = some .faulted)).length := by
  have hidx : ∀ {f : FaultRecord} {c : Nat}, (f, c) ∈ faults.zipIdx ↔ faults[c]? = some f :=
    fun {f c} => List.mk_mem_zipIdx_iff_getElem?
  have hlt : ∀ {f : FaultRecord} {c : Nat}, faults[c]? = some f → c < 32 := fun hf =>
    hlen ▸ (List.getElem?_eq_some_iff.1 hf).1
  have hinj : ∀ x ∈ faults.zipIdx.filter fun x => named.contains (u8 x.2) && x.1.state == .faulted,
      ∀ y ∈ faults.zipIdx.filter fun x => named.contains (u8 x.2) && x.1.state == .faulted,
      u8 x.2 = u8 y.2 → x = y := by
    rintro ⟨f, c⟩ hx ⟨g, d⟩ hy hcd
    have hf := hidx.1 (List.mem_of_mem_filter hx)
    have hg := hidx.1 (List.mem_of_mem_filter hy)
    have hc := hlt hf
    have hd := hlt hg
    obtain rfl : c = d := by
      rw [← u8_toNat_of_lt (by omega : c < 256), ← u8_toNat_of_lt (by omega : d < 256), hcd]
    rw [Option.some.inj (hf.symm.trans hg)]
  rw [← List.length_map (f := fun x : FaultRecord × Nat => u8 x.2)]
  refine List.Perm.length_eq ((List.perm_ext_iff_of_nodup ?_ (hnodup.filter _)).2 fun b => ?_)
  · exact List.Nodup.map_on hinj ((List.nodup_zipIdx_map_snd faults).of_map.filter _)
  · simp only [List.mem_map, List.mem_filter, Bool.and_eq_true, beq_iff_eq, decide_eq_true_eq, Prod.exists,
      Option.map_eq_some_iff, List.contains_iff_mem]
    constructor
    · rintro ⟨f, c, ⟨hfc, hnamed, hstate⟩, rfl⟩
      have hf := hidx.1 hfc
      exact ⟨hnamed, f, by rw [u8_toNat_of_lt (by have := hlt hf; omega)]; exact hf, hstate⟩
    · rintro ⟨hnamed, f, hf, hstate⟩
      exact ⟨f, b.toNat, ⟨hidx.2 hf, by rwa [u8_of_toNat], hstate⟩, u8_of_toNat b⟩

/-- Settles O42: the proper list record by record, any other list refused. -/
theorem clearFaultsJudgesByTheLastSample : Obligations.ClearFaultsJudgesByTheLastSample := by
  unfold Obligations.ClearFaultsJudgesByTheLastSample
  intro s named h hfit
  refine ⟨fun hne hlen hle hnodup hfaults => ?_, fun hbad => ?_⟩
  · have hproper : 1 ≤ named.length ∧ named.length ≤ 32 ∧ (named.all fun c => c.toNat ≤ 31) = true ∧ named.Nodup :=
      ⟨List.length_pos_iff.2 hne, hlen, by simpa using hle, hnodup⟩
    refine ⟨_, _, exec_reached .clearFaults h hfit rfl (if_pos hproper), clearedCount_eq hfaults hnodup,
      fun c f hf => ?_⟩
    have hc : c < 256 := by
      have := (List.getElem?_eq_some_iff.1 hf).1
      omega
    have hget := clearedFaults_getElem? (named := fun c => named.contains (u8 c)) hf
    simp only [contains_u8_iff hc] at hget
    refine ⟨fun hnot => hget.trans ?_, fun hstate => hget.trans ?_, fun hnamed hstate hlast => hget.trans ?_,
      fun hnamed hstate hlast => hget.trans ?_⟩
    · rw [if_neg (by simpa using hnot)]
    · rw [FaultRecord.cleared_of_not_faulted hstate, ite_self]
    · rw [if_pos hnamed, FaultRecord.cleared_of_deasserted hstate hlast]
    · rw [if_pos hnamed, FaultRecord.cleared_of_asserted hstate hlast]
  · refine exec_repliedOnly .clearFaults h hfit rfl (if_neg ?_)
    rintro ⟨hpos, hlen, hle, hnodup⟩
    rcases hbad with rfl | hbad | ⟨c, hc, hbad⟩ | hbad
    · exact absurd hpos (by simp)
    · omega
    · have hle : c.toNat ≤ 31 := by simpa using List.all_eq_true.1 hle c hc
      omega
    · exact hbad hnodup

/-! ### What every step keeps (R136, R154, R158, R176) -/

/-- A clock moves the sample timer and the TRIP qualification alone of the safety inputs. -/
theorem State.clock_safety (s : State) :
    s.clock.safety =
      { s.safety with samplePhase := s.clock.safety.samplePhase, qualifying := s.clock.safety.qualifying } := by
  unfold State.clock
  split
  · rfl
  · simp only [State.clockWait, (SafetyInputs.clock_eq s.pins s.safety).1]
  · simp only [State.clockRun, (SafetyInputs.clock_eq s.pins s.safety).1]

/-- A clock moves the PWM counter alone of the stage. -/
theorem State.clock_stage (s : State) : s.clock.stage = { s.stage with counter := s.clock.stage.counter } := by
  unfold State.clock
  split
  · rfl
  · rfl
  · simp only [State.clockRun]
    split
    · rw [(Stage.clock_eq s.pins s.stage).1]
    · rfl

theorem SafetyInputs.tripPin_frame (high : Bool) (x : SafetyInputs) :
    x.tripPin high = { x with qualifying := (x.tripPin high).qualifying } := by
  unfold tripPin
  split <;> rfl

theorem Stage.assertTrip_chans (x : Stage) : x.assertTrip.chans = x.chans ∧ x.assertTrip.period = x.period := by
  unfold assertTrip
  split <;> exact ⟨rfl, rfl⟩

/-- A filter that turns ASSERTED at a sample takes an assertion. -/
theorem Filter.asserted_of_sample {f : Filter} {x : Bool} (h : (f.sample x).asserted = true) :
    f.asserted = true ∨ f.takesAssertion x = true := by
  cases hf : f.asserted
  · right
    simp [takesAssertion, hf, h]
  · exact .inl rfl

theorem Effect.keeps_latchSound {s t : State} (he : Effect s t) (h : LatchSound s) : LatchSound t := by
  cases he with
  | clock =>
    unfold LatchSound
    rw [State.clock_safety]
    exact h
  | sample fireN backupN =>
    intro hfire
    rcases Filter.asserted_of_sample hfire with hold | hnew
    · simp [SafetyInputs.sample, h hold]
    · simp [SafetyInputs.sample, hnew]
  | clearFire deasserted => exact fun hfire => absurd hfire (by simp [deasserted])
  | tripPin high =>
    unfold LatchSound
    rw [SafetyInputs.tripPin_frame]
    exact h
  | held m => exact fun hfire => absurd hfire Bool.false_ne_true
  | _ => exact h

theorem Stage.loaded_duties (p : Plan) (trip : Bool) :
    ∀ c ∈ (Stage.loaded p trip).chans, c.duty ≤ (Stage.loaded p trip).period := by
  intro c hc
  obtain ⟨r, -, rfl⟩ := List.mem_map.1 hc
  exact Nat.zero_le _

theorem Effect.keeps_dutiesSound {s t : State} (he : Effect s t) (h : DutiesSound s) : DutiesSound t := by
  cases he with
  | clock =>
    unfold DutiesSound
    rw [State.clock_stage]
    exact h
  | pass =>
    intro c hc
    obtain ⟨r, -, o, ho, rfl⟩ := exists_of_mem_zipWith hc
    exact h o ho
  | tripAsserted =>
    unfold DutiesSound
    rw [s.stage.assertTrip_chans.1, s.stage.assertTrip_chans.2]
    exact h
  | tripReleased autoResume =>
    unfold DutiesSound
    rw [Stage.releaseTrip_eq]
    exact h
  | refresh flt =>
    intro c hc
    obtain ⟨r, -, o, -, rfl⟩ := exists_of_mem_zipWith hc
    exact dutyOf_le _ r o.preload
  | held m => exact Stage.loaded_duties builtInPlan false
  | startUp address rate => exact Stage.loaded_duties _ _
  | _ => exact h

theorem Effect.keeps_tripSound {s t : State} (he : Effect s t) (h : TripSound s) : TripSound t := by
  cases he with
  | clock =>
    unfold TripSound
    rw [State.clock_stage, State.clock_safety]
    exact h
  | tripPin high =>
    unfold TripSound
    rw [SafetyInputs.tripPin_frame]
    exact h
  | tripAsserted =>
    rintro ⟨-, hloaded⟩
    by_cases hplan : s.stage.planLoaded = true
    · simp [Stage.assertTrip, hplan]
    · simp [Stage.assertTrip, hplan] at hloaded
  | tripReleased autoResume => exact fun ⟨htrip, _⟩ => absurd htrip Bool.false_ne_true
  | clearTrip released => exact fun ⟨htrip, _⟩ => absurd htrip (by simp [released])
  | refresh flt =>
    intro hloaded
    obtain ⟨hstate, hresume⟩ := h hloaded
    simp [State.refreshed, Stage.refreshed, settleStage, hstate, hresume]
  | held m => exact fun ⟨htrip, _⟩ => absurd htrip Bool.false_ne_true
  | startUp address rate =>
    rintro ⟨htrip, -⟩
    exact ⟨if_pos htrip, rfl⟩
  | _ => exact h

/-- The rule of FAULTED channels, channel by channel. -/
theorem faultsSound_iff {channels : List ChannelRecord} {faults : List FaultRecord} :
    (∀ x ∈ channels.zip faults, x.2.state = .faulted → x.1.zone ≠ none ∧ x.1.sense = true) ↔
      ∀ (c : Nat) (r : ChannelRecord) (f : FaultRecord), channels[c]? = some r → faults[c]? = some f →
        f.state = .faulted → r.zone ≠ none ∧ r.sense = true := by
  simp only [List.mem_iff_getElem?, List.getElem?_zip_eq_some, Prod.forall, forall_exists_index, and_imp]
  exact ⟨fun h c r f hr hf => h r f c hr hf, fun h r f c hr hf => h c r f hr hf⟩

theorem initialFaults_not_faulted (channels : List ChannelRecord) :
    ∀ x ∈ channels.zip initialFaults, x.2.state = .faulted → x.1.zone ≠ none ∧ x.1.sense = true := by
  intro x hx hfaulted
  have hinitial := List.eq_of_mem_replicate (List.of_mem_zip (a := x.1) (b := x.2) hx).2
  rw [hinitial] at hfaulted
  exact absurd hfaulted (by decide)

/-- A record FAULTED after an adoption was so before it, its channel kept its zone, and its sense was not turned off. -/
theorem FaultRecord.adopt_faulted {old new : ChannelRecord} {f : FaultRecord} (h : (f.adopt old new).state = .faulted) :
    f.state = .faulted ∧ old.zone = new.zone ∧ (old.sense = true → new.sense = true) := by
  unfold adopt at h
  split at h
  · exact absurd h (by decide)
  · rename_i hkeeps
    simp only [not_or, not_not, not_and, Bool.not_eq_false] at hkeeps
    exact ⟨h, hkeeps⟩

theorem Effect.keeps_faultsSound {s t : State} (he : Effect s t) (h : FaultsSound s) : FaultsSound t := by
  cases he with
  | clock =>
    unfold FaultsSound
    rw [State.clock_plans, State.clock_faults]
    exact h
  | adopt valid =>
    refine faultsSound_iff.2 fun c new g hnew hg hfaulted => ?_
    obtain ⟨⟨old, new'⟩, f, hrecords, hf, rfl⟩ := List.getElem?_zipWith_eq_some.1 hg
    obtain ⟨hold, hnew'⟩ := List.getElem?_zip_eq_some.1 hrecords
    obtain rfl := Option.some.inj (hnew.symm.trans hnew')
    obtain ⟨hwas, hzone, hsense⟩ := FaultRecord.adopt_faulted hfaulted
    obtain ⟨hbound, hon⟩ := faultsSound_iff.1 h c old f hold hf hwas
    exact ⟨hzone ▸ hbound, hsense hon⟩
  | refresh flt =>
    refine faultsSound_iff.2 fun c r g hr hg hfaulted => ?_
    obtain ⟨x, f, hx, hf, -⟩ := List.getElem?_zipWith_eq_some.1 hg
    obtain ⟨o, ho⟩ : ∃ o, (s.refreshed flt).stage.chans[c]? = some o := by
      rw [List.getElem?_zipIdx, Option.map_eq_some_iff] at hx
      obtain ⟨y, hy, -⟩ := hx
      exact ⟨_, (List.getElem?_zip_eq_some.1 hy).2⟩
    have hr : s.plans.running.channels[c]? = some r := hr
    rw [State.refreshed_faults, sampleFaults_getElem? _ _ flt hr ho hf] at hg
    by_cases hsampled : isSampled (s.refreshed flt).stage.state r o = true
    · obtain ⟨-, hbound, hsense, -⟩ := isSampled_iff.1 hsampled
      exact ⟨hbound, hsense⟩
    · rw [if_neg hsampled] at hg
      obtain rfl := Option.some.inj hg
      exact faultsSound_iff.1 h c r f hr hf hfaulted
  | clearFaults named =>
    refine faultsSound_iff.2 fun c r g hr hg hfaulted => ?_
    obtain ⟨f, hf⟩ : ∃ f, s.faults[c]? = some f := by
      have hlt := (List.getElem?_eq_some_iff.1 hg).1
      rw [List.length_map, List.length_zipIdx] at hlt
      exact ⟨_, List.getElem?_eq_getElem hlt⟩
    rw [clearedFaults_getElem? hf] at hg
    obtain rfl := Option.some.inj hg
    split at hfaulted
    · exact absurd hfaulted f.cleared_not_faulted
    · exact faultsSound_iff.1 h c r f hr hf hfaulted
  | held m => exact initialFaults_not_faulted _
  | startUp address rate => exact initialFaults_not_faulted _
  | _ => exact h

/-- Settles O58: each of the four by the effects that can reach it. -/
theorem everyStepKeepsTheOutputsSafe : Obligations.EveryStepKeepsTheOutputsSafe := by
  unfold Obligations.EveryStepKeepsTheOutputsSafe
  exact fun s t h => ⟨step_keeps Effect.keeps_latchSound h, step_keeps Effect.keeps_dutiesSound h,
    step_keeps Effect.keeps_tripSound h, step_keeps Effect.keeps_faultsSound h⟩

end Sys2Proof.Machine
end

section
/-! PROOFS. The queue (00_scope, Time and events), and DRAFT LOAD. -/

namespace Sys2Proof.Machine

/-- Settles O1: a step of a queued command is `exec` of it. -/
theorem stepTakesTheFrontCommand : Obligations.StepTakesTheFrontCommand := fun _ _ _ => rfl

/-- Settles O18: the owner of DRAFT LOAD, at a request that reaches it. -/
theorem draftLoadCopiesTheRunningPlan : Obligations.DraftLoadCopiesTheRunningPlan := by
  unfold Obligations.DraftLoadCopiesTheRunningPlan
  exact fun s h => exec_reached .draftLoad h (by simp) rfl rfl

/-! ### No command changes the queue -/

theorem setLine_frame (s : State) (l : Line) (x : LinePort) : SameFrame s (s.setLine l x) := ⟨rfl, rfl, rfl, rfl, rfl⟩

theorem handOver_frame (s : State) (l : Line) (bc : Bool) (body : List Byte) : SameFrame s (s.handOver l bc body) := by
  unfold State.handOver
  split
  · exact .self s
  · split
    · exact (dispatchBroadcast_frame ..).trans (setLine_frame ..)
    · exact (dispatch_frame ..).trans (setLine_frame ..)

theorem dataChar_frame (s : State) (l : Line) (v : Byte) : SameFrame s (s.dataChar l v) := by
  unfold State.dataChar
  split
  · exact .self s
  · simp only [State.collectChar]
    repeat' split
    case _ => exact setLine_frame ..
    case _ => exact setLine_frame ..
    case _ => exact handOver_frame ..
    all_goals exact setLine_frame ..
  · exact setLine_frame ..
  · exact .self s

theorem handOverFigure_pending (s : State) (p : Portal) (mode : SourceMode) (figure : Option Nat) :
    (s.handOverFigure p mode figure).pending = s.pending := by
  cases figure <;> rfl

theorem pending_of_guard {s t : State} (b : Bool) (h : t.pending = s.pending) : (if b then t else s).pending = s.pending := by
  cases b
  · rfl
  · exact h

theorem exec_pending {c : Instr} {s t : State} (h : exec c s = .next t) : t.pending = s.pending := by
  cases c <;> obtain rfl := Host.Outcome.next.inj h
  case phinRisingEdge p k => exact pending_of_guard _ (handOverFigure_pending _ p _ _)
  case dataCharacter l v => exact pending_of_guard _ (dataChar_frame s l v).pending
  case periodEnd =>
    refine pending_of_guard _ ?_
    split <;> rfl
  case resetRelease cause => split <;> rfl
  case startUp address rate => split <;> rfl
  case tripPinChange high => rfl
  case resetEntry cause => rfl
  case tick | holdTimerExpiry | intervalTimerExpiry | firstEdgeTimeout | countOverflowTimeout | levelPass | claimCheck
    | claimExpiry | sampleEvent | tripAssertionAccepted | tripReleaseAccepted | refresh | addressCharacter | framingError
    | gapTimeout | turnaroundSilence | replyEnd | pageErased | programmingComplete | verifyComplete =>
    exact pending_of_guard _ rfl
  all_goals exact (request_frame s _ _ _).pending

/-- Settles O2: by the command; every request through its frame. -/
theorem commandsLeaveTheQueue : Obligations.CommandsLeaveTheQueue := by
  unfold Obligations.CommandsLeaveTheQueue
  exact fun c s t => exec_pending

end Sys2Proof.Machine
end

section
/-! PROOFS. The plan store (12_plan_store_and_start_up 12.1, 12.2). -/

namespace Sys2Proof.Machine

/-! ### SAVE and the steps of a save (R208, R209) -/

theorem exec_pageErased {s : State} (h : s.started = true) :
    exec .pageErased s = .next { s with store := s.store.pageErased } := congrArg Host.Outcome.next (if_pos h)

theorem exec_programmingComplete {s : State} (h : s.started = true) :
    exec .programmingComplete s = .next { s with store := s.store.programmed } := congrArg Host.Outcome.next (if_pos h)

theorem exec_verifyComplete {s : State} (h : s.started = true) (differs : Bool) (marker : BitVec 16) :
    exec (.verifyComplete differs marker) s = .next { s with store := s.store.verified differs marker } :=
  congrArg Host.Outcome.next (if_pos h)

/-- SAVE of an idle store. -/
theorem exec_save {s : State} (h : s.Reached .s) (hidle : s.store.state = .idle) :
    exec (.save .s false []) s = .next (({ s.addressed .s false with store := { s.store with
        state := .erasing, snapshot := some (imageOf pendingMarker s.plans.running), index := 0, phase := 0 } }).answered
      .s 0x35 (.plain .accepted)) :=
  exec_reached .save h (by simp) rfl (by simp [ownerTakes, takeSave, hidle])

/-- Settles O49: SAVE by the store state, then each completion in its own state and in the others. -/
theorem saveStepsRunInTurn : Obligations.SaveStepsRunInTurn := by
  unfold Obligations.SaveStepsRunInTurn
  refine ⟨fun s h => ⟨exec_save h, fun hbusy => ?_⟩, fun s h => ⟨fun hst hpage => ?_, fun hst hpage => ?_,
    fun snap hst hsnap => ?_, fun differs marker hst =>
      ⟨if differs = true then s.store.image else be16 marker.toNat ++ s.store.image.drop 2, ?_, fun hd => if_pos hd, ?_⟩,
    fun hst => ?_, fun hst => ?_, fun differs marker hst => ?_⟩⟩
  · exact exec_repliedOnly .save h (by simp) rfl (by simp [ownerTakes, takeSave, hbusy])
  · rw [exec_pageErased h, Store.pageErased, if_pos hst, if_pos hpage]
    rfl
  · rw [exec_pageErased h, Store.pageErased, if_pos hst, if_neg hpage]
    rfl
  · rw [exec_programmingComplete h, Store.programmed, if_pos hst]
    simp only [hsnap, Option.getD_some]
  · rw [exec_verifyComplete h, Store.verified, if_pos hst]
    have hmarker : (marker.toNat == committedMarker) = decide (marker = 0x3C5A) := by
      rw [Bool.eq_iff_iff, beq_iff_eq, decide_eq_true_eq, BitVec.toNat_eq]
      rfl
    simp [hmarker]
  · rintro rfl
    rfl
  · rw [exec_pageErased h, Store.pageErased, if_neg hst]
  · rw [exec_programmingComplete h, Store.programmed, if_neg hst]
  · rw [exec_verifyComplete h, Store.verified, if_neg hst]

/-! ### A save in flight is uncommitted -/

/-- `SaveUncommitted` of the store alone. -/
abbrev Store.Uncommitted (x : Store) : Prop :=
  x.state ≠ .idle →
    (x.snapshot.getD [])[1]? ≠ some 0x5A ∧ ((x.state = .erasing ∧ x.index = 0) ∨ x.image[1]? ≠ some 0x5A)

/-- A valid image begins with the committed marker. -/
theorem second_of_imageValid {image : List Byte} (h : imageValid image = true) : image[1]? = some 0x5A := by
  unfold imageValid at h
  have hmarker : image.take 2 = be16 committedMarker := by
    simp only [Bool.and_eq_true, beq_iff_eq] at h
    exact h.1
  rw [← List.getElem?_take_of_lt (by norm_num : 1 < 2), hmarker]
  rfl

/-- Erasing page 0 takes the marker; erasing page 1 leaves a marker that is not the committed one. -/
theorem second_of_erasePage {page : Nat} {image : List Byte} (h : page = 0 ∨ image[1]? ≠ some 0x5A) :
    (erasePage page image)[1]? ≠ some 0x5A := by
  unfold erasePage
  split
  · rw [List.getElem?_append_left (by rw [List.length_replicate]; norm_num), List.getElem?_replicate,
      if_pos (by norm_num)]
    decide
  · have himage := h.resolve_left ‹_›
    by_cases hlen : 1 < image.length
    · rwa [List.getElem?_append_left (by simp; omega), List.getElem?_take_of_lt (by norm_num)]
    · rw [List.getElem?_append_right (by simp; omega), List.getElem?_replicate]
      split <;> simp

theorem Store.pageErased_uncommitted {x : Store} (h : x.Uncommitted) : x.pageErased.Uncommitted := by
  unfold pageErased
  split
  · rename_i hst
    obtain ⟨hsnap, himage⟩ := h (by simp [hst])
    split
    · exact fun _ => ⟨hsnap, .inr (second_of_erasePage (.inl rfl))⟩
    · rename_i hpage
      exact fun _ => ⟨hsnap, .inr (second_of_erasePage (page := 1) (.inr (himage.resolve_left fun hp => hpage hp.2)))⟩
  · exact h

/-- What is programmed at byte 1 is not the committed marker's. -/
theorem Store.source_uncommitted {x : Store} (h : x.Uncommitted) (hst : x.state = .programming) :
    (x.snapshot.getD x.image)[1]? ≠ some 0x5A := by
  obtain ⟨hsnap, himage⟩ := h (by simp [hst])
  cases hx : x.snapshot with
  | none => simpa [hst] using himage
  | some snap => simpa [hx] using hsnap

theorem Store.programmed_uncommitted {x : Store} (h : x.Uncommitted) : x.programmed.Uncommitted := by
  unfold programmed
  split
  · rename_i hst
    exact fun _ => ⟨(h (by simp [hst])).1, .inr (Store.source_uncommitted h hst)⟩
  · exact h

theorem Store.verified_uncommitted {x : Store} (differs : Bool) (marker : BitVec 16) (h : x.Uncommitted) :
    (x.verified differs marker).Uncommitted := by
  unfold verified
  split
  · exact fun hbusy => absurd rfl hbusy
  · exact h

/-- A clock of the store moves its counts and, at the end of a byte's time, that byte of the image. -/
theorem Store.clock_frame (free : Nat) (x : Store) :
    (x.clock free).1 =
      { x with
        image :=
          if x.state = .programming ∧ 640 ≤ x.phase + 1 ∧ x.index + 1 < 512 then
            x.image.set x.index ((x.snapshot.getD x.image).getD x.index 0xFF)
          else x.image
        index := (x.clock free).1.index
        phase := (x.clock free).1.phase } := by
  unfold clock Config.eraseClocks Config.programClocks Config.imageSize Config.verifyClocks
  cases x with
  | mk image state snapshot result index phase =>
    cases state with
    | idle => rfl
    | erasing => by_cases h : 192000 ≤ phase + 1 <;> simp [h]
    | programming =>
      by_cases h : phase + 1 < 640
      · simp [h, Nat.not_le.2 h]
      · by_cases h' : 512 ≤ index + 1
        · simp [h, h', Nat.not_lt.2 h']
        · simp [h, h', Nat.le_of_not_lt h, Nat.lt_of_not_le h']
    | verifying => by_cases h : 8832 ≤ phase + 1 <;> simp [h]

theorem Store.clock_index_of_erasing {free : Nat} {x : Store} (h : x.state = .erasing) :
    (x.clock free).1.index = x.index := by
  simp only [clock, h]
  split <;> rfl

theorem Store.clock_uncommitted {x : Store} (free : Nat) (h : x.Uncommitted) : (x.clock free).1.Uncommitted := by
  intro hbusy
  have hindex := fun hst => Store.clock_index_of_erasing (free := free) (x := x) hst
  rw [Store.clock_frame] at hbusy ⊢
  obtain ⟨hsnap, himage⟩ := h hbusy
  refine ⟨hsnap, himage.imp (fun ⟨hst, hpage⟩ => ⟨hst, (hindex hst).trans hpage⟩) fun himage => ?_⟩
  show (if _ then _ else _)[1]? ≠ some (0x5A : Byte)
  split
  · rename_i hbyte
    have hsource := Store.source_uncommitted h hbyte.1
    rw [List.getElem?_set]
    split_ifs with hone
    · rw [hone, List.getD_eq_getElem?_getD]
      cases hbyte : (x.snapshot.getD x.image)[1]? with
      | none => decide
      | some b => exact hbyte ▸ hsource
    · simp
    · exact himage
  · exact himage

theorem State.clock_store (s : State) : s.clock.store = s.store ∨ s.clock.store = (s.store.clock s.freeCount).1 := by
  unfold State.clock
  split
  · exact .inl rfl
  · exact .inl rfl
  · exact .inr rfl

theorem Effect.keeps_saveUncommitted {s t : State} (he : Effect s t) (h : SaveUncommitted s) : SaveUncommitted t := by
  cases he with
  | clock =>
    rcases s.clock_store with hstore | hstore
    · exact show s.clock.store.Uncommitted from hstore ▸ h
    · exact show s.clock.store.Uncommitted from hstore ▸ Store.clock_uncommitted s.freeCount h
  | save => exact fun _ => ⟨show some (u8 pendingMarker) ≠ some (0x5A : Byte) by decide, .inl ⟨rfl, rfl⟩⟩
  | pageErased => exact Store.pageErased_uncommitted h
  | programmed => exact Store.programmed_uncommitted h
  | verified differs marker => exact Store.verified_uncommitted differs marker h
  | held m => exact fun hbusy => absurd rfl hbusy
  | _ => exact h

/-- Settles O60: the steps of a save, its clock, and SAVE itself. -/
theorem everyStepKeepsSavesUncommitted : Obligations.EveryStepKeepsSavesUncommitted := by
  unfold Obligations.EveryStepKeepsSavesUncommitted
  exact fun s t hs h => step_keeps Effect.keeps_saveUncommitted h hs

/-! ### Plan words (R207) -/

theorem padTo_length {n : Nat} {l : List Byte} (h : l.length ≤ n) : (padTo n l).length = n := by
  simp [padTo]
  omega

theorem curveBytes_length (c : List Breakpoint) : (curveBytes c).length = 1 + 4 * c.length := by
  rw [curveBytes, List.length_cons, flatMap_length_of_width Breakpoint.bytes_length]
  omega

/-- A padded curve is read back: its count says where the padding begins. -/
theorem unpackCurve_padTo {c : List Breakpoint} (h : curveInRange c = true) :
    unpackCurve (padTo 49 (curveBytes c)) = some c := by
  obtain ⟨-, hlen, -⟩ := (curveInRange_iff c).1 h
  have hcount : ((padTo 49 (curveBytes c)).headD 0).toNat = c.length := by
    simp [padTo, curveBytes]
    omega
  rw [unpackCurve, hcount, padTo, List.take_left' (curveBytes_length c)]
  exact parseCurve_eq_some.2 ⟨h, rfl⟩

@[simp] theorem ZoneRecord.packed_length (r : ZoneRecord) : r.packed.length = 11 := rfl

/-- The number of a packed zone record's first character. -/
theorem ZoneRecord.packedCodes_toNat (r : ZoneRecord) :
    r.packedCodes.toNat =
      r.kind.code + 8 * (match r.portal with | none => 0 | some .a => 1 | some .b => 2)
        + 32 * switchCode r.compensation := by
  refine u8_toNat_of_lt ?_
  cases r.kind <;> rcases r.portal with _ | _ | _ <;> cases r.compensation <;> decide

theorem ZoneRecord.unpack_packed {r : ZoneRecord} (h : r.inRange = true) : ZoneRecord.unpack r.packed = some r := by
  have hparse := ZoneRecord.parse_bytes h
  simp only [unpack, packed, packedCodes_toNat]
  have hbytes : r.bytes = [u8 r.kind.code, u8 (zonePortalCode r.portal)] ++ (r.bytes.drop 2).take 10
      ++ [u8 (switchCode r.compensation)] := rfl
  rw [hbytes] at hparse
  rw [← hparse]
  cases r.kind <;> rcases r.portal with _ | _ | _ <;> cases r.compensation <;> rfl

/-- The plan words, part by part. -/
theorem Plan.packed_eq (p : Plan) : ∃ padding,
    p.packed = p.general.bytes ++ (p.portals.a.bytes ++ (p.portals.b.bytes ++ (padTo 49 (curveBytes p.curves.a)
      ++ (padTo 49 (curveBytes p.curves.b) ++ (p.zones.flatMap ZoneRecord.packed
      ++ (p.channels.flatMap ChannelRecord.bytes ++ padding)))))) := by
  simp only [packed, padTo, List.append_assoc]
  exact ⟨_, rfl⟩

theorem Plan.packed_length {p : Plan} (h : p.inRange = true) : p.packed.length = 508 := by
  obtain ⟨-, -, hcurves, hzlen, -, hclen, -⟩ := (Plan.inRange_iff p).1 h
  have hcurve : ∀ x, (padTo 49 (curveBytes (p.curves.get x))).length = 49 := fun x => by
    obtain ⟨-, hlen, -⟩ := (curveInRange_iff _).1 (hcurves x)
    exact padTo_length (by rw [curveBytes_length]; omega)
  refine padTo_length ?_
  have ha : (padTo 49 (curveBytes p.curves.a)).length = 49 := hcurve .a
  have hb : (padTo 49 (curveBytes p.curves.b)).length = 49 := hcurve .b
  simp only [List.length_append, ha, hb, flatMap_length_of_width ZoneRecord.packed_length,
    flatMap_length_of_width ChannelRecord.bytes_length, hzlen, hclen, General.bytes_length, PortalRecord.bytes_length]
  norm_num

/-- The pieces of equally wide records, each read back. -/
theorem allSome_chunks_of_read {α : Type} {k n : Nat} {write : α → List Byte} {read : List Byte → Option α} {xs : List α}
    (rest : List Byte) (hn : xs.length = n) (hwidth : ∀ x, (write x).length = k)
    (hread : ∀ x ∈ xs, read (write x) = some x) :
    allSome ((chunks k n (xs.flatMap write ++ rest)).map read) = some xs := by
  rw [← hn, chunks_flatMap write xs rest fun x _ => hwidth x, allSome_eq_some, List.map_map]
  exact List.map_congr_left hread

theorem unpackPlan_packed {p : Plan} (h : p.inRange = true) : unpackPlan p.packed = some p := by
  obtain ⟨hgeneral, hportals, hcurves, hzlen, hzones, hclen, hchannels⟩ := (Plan.inRange_iff p).1 h
  have hcurve : ∀ x, (padTo 49 (curveBytes (p.curves.get x))).length = 49 := fun x => by
    obtain ⟨-, hlen, -⟩ := (curveInRange_iff _).1 (hcurves x)
    exact padTo_length (by rw [curveBytes_length]; omega)
  have hlena : (padTo 49 (curveBytes p.curves.a)).length = 49 := hcurve .a
  have hlenb : (padTo 49 (curveBytes p.curves.b)).length = 49 := hcurve .b
  obtain ⟨padding, hpacked⟩ := p.packed_eq
  have h21 := congrArg (List.drop 21) hpacked
  rw [List.drop_left' p.general.bytes_length] at h21
  have h33 := congrArg (List.drop 12) h21
  rw [List.drop_drop, List.drop_left' p.portals.a.bytes_length] at h33
  have h45 := congrArg (List.drop 12) h33
  rw [List.drop_drop, List.drop_left' p.portals.b.bytes_length] at h45
  have h94 := congrArg (List.drop 49) h45
  rw [List.drop_drop, List.drop_left' hlena] at h94
  have h143 := congrArg (List.drop 49) h94
  rw [List.drop_drop, List.drop_left' hlenb] at h143
  have h275 := congrArg (List.drop 132) h143
  rw [List.drop_drop, List.drop_left' (by rw [flatMap_length_of_width ZoneRecord.packed_length, hzlen])] at h275
  have hg : General.parse (p.packed.take 21) = some p.general := by
    rw [hpacked, List.take_left' p.general.bytes_length, General.parse_bytes hgeneral]
  have ha : PortalRecord.parse ((p.packed.drop 21).take 12) = some p.portals.a := by
    rw [h21, List.take_left' p.portals.a.bytes_length]
    exact PortalRecord.parse_bytes (hportals .a)
  have hb : PortalRecord.parse ((p.packed.drop 33).take 12) = some p.portals.b := by
    rw [h33, List.take_left' p.portals.b.bytes_length]
    exact PortalRecord.parse_bytes (hportals .b)
  have hca : unpackCurve ((p.packed.drop 45).take 49) = some p.curves.a := by
    rw [h45, List.take_left' hlena]
    exact unpackCurve_padTo (hcurves .a)
  have hcb : unpackCurve ((p.packed.drop 94).take 49) = some p.curves.b := by
    rw [h94, List.take_left' hlenb]
    exact unpackCurve_padTo (hcurves .b)
  have hzs : allSome ((chunks 11 12 (p.packed.drop 143)).map ZoneRecord.unpack) = some p.zones := by
    rw [h143]
    exact allSome_chunks_of_read _ hzlen ZoneRecord.packed_length fun r hr => ZoneRecord.unpack_packed (hzones r hr)
  have hcs : allSome ((chunks 7 32 (p.packed.drop 275)).map ChannelRecord.parse) = some p.channels := by
    rw [h275]
    exact allSome_chunks_of_read _ hclen ChannelRecord.bytes_length fun r hr => ChannelRecord.parse_bytes (hchannels r hr)
  simp only [unpackPlan, hg, ha, hb, hca, hcb, hzs, hcs]

/-! ### The committed image (R207) -/

theorem wordSum_append {l : List Byte} (m : List Byte) {k : Nat} (h : l.length = 2 * k) :
    wordSum (l ++ m) = wordSum l + wordSum m := by
  induction k generalizing l with
  | zero =>
    obtain rfl := List.eq_nil_of_length_eq_zero h
    simp [wordSum]
  | succ k ih =>
    obtain ⟨a, l, rfl⟩ := List.exists_cons_of_length_eq_add_one (show l.length = (2 * k + 1) + 1 by omega)
    obtain ⟨b, l, rfl⟩ := List.exists_cons_of_length_eq_add_one (Nat.succ_injective h)
    have hl : l.length = 2 * k := Nat.succ_injective (Nat.succ_injective h)
    simp only [List.cons_append, wordSum, ih hl, Nat.add_assoc]

theorem wordSum_be16 {n : Nat} (h : n < 65536) : wordSum (be16 n) = n := by
  simp only [be16, wordSum, nat16_be16 h, Nat.add_zero]

/-- The image of a plan in range under the committed marker is valid and holds the plan. -/
theorem storedPlan_imageOf {p : Plan} (hrange : p.inRange = true) (hvalid : p.valid = true) :
    storedPlan (imageOf committedMarker p) = some p := by
  have hlen := Plan.packed_length hrange
  have hmarker : imageOf committedMarker p = be16 committedMarker ++ (p.packed ++ be16 (checkWord p.packed)) := by
    rw [imageOf, List.append_assoc]
  have hcheck : checkWord p.packed < 65536 := Nat.mod_lt _ (by norm_num)
  have hsum : wordSum (imageOf committedMarker p) % 65536 = 0 := by
    rw [hmarker, wordSum_append (k := 1) _ rfl, wordSum_append (k := 254) _ hlen, wordSum_be16 (by decide),
      wordSum_be16 hcheck, checkWord]
    omega
  have himage : imageValid (imageOf committedMarker p) = true := by
    rw [imageValid, hsum, hmarker, List.take_left' (be16_length _)]
    decide
  have hwords : ((imageOf committedMarker p).drop 2).take 508 = p.packed := by
    rw [hmarker, List.drop_left' (be16_length _), List.take_left' hlen]
  rw [storedPlan, if_pos himage, hwords, unpackPlan_packed hrange, Option.filter_some, if_pos hvalid]

/-! ### From SAVE to the next start-up (R207 to R211) -/

theorem run_succ_of_step {M : Host.Core} {s t : M.State} (k : Nat) (h : M.step s = .next t) :
    M.run (k + 1) s = M.run k t := by
  simp only [Host.Core.run, h]

/-- A run takes the command in front, then goes on. -/
theorem exists_run_succ {s t : State} {c : Instr} {rest : List Instr} {k : Nat} {P : State → Prop}
    (hqueue : s.pending = c :: rest) (h : exec c { s with pending := rest } = .next t)
    (hrest : ∃ u, core.run k t = .next u ∧ P u) : ∃ u, core.run (k + 1) s = .next u ∧ P u := by
  have hstep : step s = .next t := by
    rw [step, hqueue]
    exact h
  obtain ⟨u, hrun, hu⟩ := hrest
  exact ⟨u, (run_succ_of_step (M := core) k hstep).trans hrun, hu⟩

theorem Monitor.leave_enter {m : Monitor} (h : m.anyStands = false) (c : ResetCause) :
    ((m.enter c).leave c).phase = .wait := by
  simp only [anyStands, Bool.or_eq_false_iff] at h
  obtain ⟨⟨hpower, hsupply⟩, hexternal⟩ := h
  cases c <;> simp [enter, leave, setCause, anyStands, hpower, hsupply, hexternal]

theorem Monitor.stands_enter (m : Monitor) (c : ResetCause) : (m.enter c).stands c = true := by
  cases c <;> rfl

theorem exec_resetEntry (s : State) (c : ResetCause) :
    exec (.resetEntry c) s = .next (s.heldReset (s.monitor.enter c)) := rfl

theorem exec_resetRelease {s : State} {c : ResetCause} (hheld : s.monitor.phase = .held) (hstands : s.monitor.stands c = true) :
    exec (.resetRelease c) s = .next
      { s with
        monitor := s.monitor.leave c
        safety := if (s.monitor.leave c).phase = .wait then s.safety.tripPin s.pins.tripN else s.safety } :=
  congrArg Host.Outcome.next (if_pos ⟨hheld, hstands⟩)

theorem exec_startUp {s : State} (h : s.monitor.phase = .wait) (address : BitVec 5) (rate : BitVec 2) :
    exec (.startUp address rate) s = .next (s.startUp address rate) := congrArg Host.Outcome.next (if_pos h)

/-- What the run of a saved plan comes to: the plan is loaded and the part started. -/
structure LoadedFrom (p : Plan) (straps : Straps) (queue : List Instr) (t : State) : Prop where
  plans : t.plans = PlanMemory.loaded p .saved
  straps : t.straps = straps
  started : t.started = true
  pending : t.pending = queue

/-- A reset and the start-up after it load the plan of the image that the reset leaves. -/
theorem run_reset_startUp {s : State} {p : Plan} {cause : ResetCause} {address : BitVec 5} {rate : BitVec 2}
    {rest : List Instr} (hqueue : s.pending = .resetEntry cause :: .resetRelease cause :: .startUp address rate :: rest)
    (hquiet : s.monitor.anyStands = false) (himage : startUpPlan s.store.abandoned.image = PlanMemory.loaded p .saved) :
    ∃ t, core.run 3 s = .next t ∧ LoadedFrom p ⟨address, rate⟩ rest t := by
  refine exists_run_succ hqueue (exec_resetEntry _ cause) ?_
  refine exists_run_succ rfl (exec_resetRelease rfl (s.monitor.stands_enter cause)) ?_
  refine exists_run_succ rfl (exec_startUp (Monitor.leave_enter hquiet cause) address rate) ?_
  exact ⟨_, rfl, himage, rfl, rfl, rfl⟩

/-- The steps of a save, up to its commit. -/
theorem run_save_steps {s : State} {rest : List Instr} {k : Nat} {P : State → Prop} (hstarted : s.started = true)
    (hqueue : s.pending =
      .pageErased :: .pageErased :: .programmingComplete :: .verifyComplete false 0x3C5A :: rest)
    (hrest : ∃ u, core.run k { s with
      store := s.store.pageErased.pageErased.programmed.verified false 0x3C5A, pending := rest } = .next u ∧ P u) :
    ∃ u, core.run (k + 4) s = .next u ∧ P u := by
  refine exists_run_succ hqueue (exec_pageErased hstarted) ?_
  refine exists_run_succ rfl (exec_pageErased hstarted) ?_
  refine exists_run_succ rfl (exec_programmingComplete hstarted) ?_
  exact exists_run_succ rfl (exec_verifyComplete (by exact hstarted) false 0x3C5A) hrest

/-- Settles O50: SAVE, its steps, and the reset; the image they leave is the committed image of the plan. -/
theorem savedPlanReturnsAtStartUp : Obligations.SavedPlanReturnsAtStartUp := by
  unfold Obligations.SavedPlanReturnsAtStartUp
  intro s cause address rate rest hrange hvalid hreached hidle hquiet
  have hplans : startUpPlan (be16 committedMarker ++ (imageOf pendingMarker s.plans.running).drop 2) =
      PlanMemory.loaded s.plans.running .saved := by
    have himage : be16 committedMarker ++ (imageOf pendingMarker s.plans.running).drop 2 =
        imageOf committedMarker s.plans.running := by
      simp only [imageOf, List.append_assoc]
      rw [List.drop_left' (be16_length _)]
    rw [himage, startUpPlan, storedPlan_imageOf hrange hvalid]
  obtain ⟨t, hrun, hloaded⟩ : ∃ t, core.run 8 { s with pending :=
        [.save .s false [], .pageErased, .pageErased, .programmingComplete, .verifyComplete false 0x3C5A,
          .resetEntry cause, .resetRelease cause, .startUp address rate] ++ rest } = .next t
      ∧ LoadedFrom s.plans.running ⟨address, rate⟩ rest t :=
    exists_run_succ rfl (exec_save hreached hidle)
      (run_save_steps hreached.1.1 rfl (run_reset_startUp rfl hquiet hplans))
  refine ⟨t, hrun, ?_, ?_, ?_, hloaded.straps, hloaded.started, hloaded.pending⟩
  · rw [hloaded.plans]
    rfl
  · rw [hloaded.plans]
    rfl
  · rw [hloaded.plans]
    rfl

end Sys2Proof.Machine
end

section
/-! PROOFS. Reset and start-up (12_plan_store_and_start_up 12.3, 12.4). -/

namespace Sys2Proof.Machine

/-! ### The causes (R210) -/

theorem Monitor.stands_setCause_false (m : Monitor) (c d : ResetCause) :
    (m.setCause c false).stands d = (m.stands d && decide (d ≠ c)) := by
  cases c <;> cases d <;> simp [setCause, stands]

theorem Monitor.anyStands_iff (m : Monitor) : m.anyStands = true ↔ ∃ d, m.stands d = true := by
  simp only [anyStands, Bool.or_eq_true]
  constructor
  · rintro ((h | h) | h)
    exacts [⟨.powerOn, h⟩, ⟨.supplyLow, h⟩, ⟨.external, h⟩]
  · rintro ⟨_ | _ | _, h⟩
    exacts [.inl (.inl h), .inl (.inr h), .inr h]

theorem Monitor.anyStands_setCause_false (m : Monitor) (c : ResetCause) :
    (m.setCause c false).anyStands = true ↔ ∃ d, d ≠ c ∧ m.stands d = true := by
  simp only [anyStands_iff, stands_setCause_false, Bool.and_eq_true, decide_eq_true_eq, and_comm]

/-- The release of the last standing cause. -/
theorem Monitor.leave_of_last {m : Monitor} {c : ResetCause} (h : ∀ d, d ≠ c → m.stands d = false) :
    m.leave c = { m.setCause c false with phase := .wait, cause := c, waitClocks := 0, powerTimer := none } := by
  refine if_neg fun hany => ?_
  obtain ⟨d, hd, hstands⟩ := (m.anyStands_setCause_false c).1 hany
  exact absurd hstands (by simp [h d hd])

/-- An earlier release. -/
theorem Monitor.leave_of_other {m : Monitor} {c : ResetCause} (h : ∃ d, d ≠ c ∧ m.stands d = true) :
    m.leave c =
      { m.setCause c false with
        powerTimer := if c = .supplyLow ∧ m.powerOn = true ∧ m.powerTimer = none then some 0 else m.powerTimer } := by
  have hany := (m.anyStands_setCause_false c).2 h
  unfold leave
  simp only [hany, if_true]
  cases c with
  | powerOn => simp [setCause]
  | external => simp [setCause]
  | supplyLow =>
    by_cases hpower : m.powerOn = true ∧ m.powerTimer = none
    · simp [setCause, hpower]
    · simp [setCause, hpower]

theorem Monitor.setCause_frame (m : Monitor) (c : ResetCause) (on : Bool) :
    (m.setCause c on).phase = m.phase ∧ (m.setCause c on).cause = m.cause := by
  cases c <;> exact ⟨rfl, rfl⟩

theorem Monitor.stands_of_causes {m n : Monitor} (h : n.powerOn = m.powerOn ∧ n.supplyLow = m.supplyLow ∧ n.external = m.external)
    (d : ResetCause) : n.stands d = m.stands d := by
  obtain ⟨hpower, hsupply, hexternal⟩ := h
  cases d <;> assumption

/-- After a release the causes stand as before, but for the one released. -/
theorem Monitor.stands_leave (m : Monitor) (c d : ResetCause) : (m.leave c).stands d = (m.stands d && decide (d ≠ c)) := by
  rw [← stands_setCause_false]
  apply stands_of_causes
  by_cases h : ∃ e, e ≠ c ∧ m.stands e = true
  · rw [leave_of_other h]
    exact ⟨rfl, rfl, rfl⟩
  · rw [leave_of_last (by simpa using h)]
    exact ⟨rfl, rfl, rfl⟩

/-! ### What a reset leaves (R24, R38, R72, R166, R192, R209) -/

/-- A save cut short of its commit leaves no valid image. -/
theorem Store.abandoned_invalid {x : Store} (h : x.Uncommitted) (hbusy : x.state ≠ .idle) :
    imageValid x.abandoned.image = false := by
  obtain ⟨-, himage⟩ := h hbusy
  have hsecond : x.abandoned.image[1]? ≠ some 0x5A := by
    show (if x.state = .erasing then erasePage x.index x.image else x.image)[1]? ≠ some 0x5A
    split
    · exact second_of_erasePage (himage.imp_left And.right)
    · rename_i hst
      exact himage.resolve_left fun hst' => hst hst'.1
  exact Bool.eq_false_iff.2 fun hvalid => hsecond (second_of_imageValid hvalid)

theorem Stage.loaded_quiet (p : Plan) (trip : Bool) : ∀ o ∈ (Stage.loaded p trip).chans, o.preload = 0 ∧ o.duty = 0 := by
  intro o ho
  obtain ⟨r, -, rfl⟩ := List.mem_map.1 ho
  exact ⟨rfl, rfl⟩

theorem forall_line {P : Line → Prop} : (∀ l, P l) ↔ P .a ∧ P .b ∧ P .s :=
  ⟨fun h => ⟨h .a, h .b, h .s⟩, fun ⟨ha, hb, hs⟩ l => by cases l <;> assumption⟩

/-! ### Start-up (R211) -/

theorem startUpPlan_eq {image : List Byte} {plan : Plan} {source : PlanSource}
    (h : (storedPlan image = some plan ∧ source = .saved)
      ∨ (storedPlan image = none ∧ plan = builtInPlan ∧ source = .builtIn)) :
    startUpPlan image = PlanMemory.loaded plan source := by
  rcases h with ⟨hstored, rfl⟩ | ⟨hstored, rfl, rfl⟩ <;> simp only [startUpPlan, hstored]

theorem storedPlan_of_invalid {image : List Byte} (h : imageValid image = false) : storedPlan image = none :=
  if_neg (by simp [h])

/-- The whole state after a start-up from `plan`. -/
theorem State.startUp_eq {s : State} {plan : Plan} {source : PlanSource} (address : BitVec 5) (rate : BitVec 2)
    (h : startUpPlan s.store.image = PlanMemory.loaded plan source) :
    s.startUp address rate =
      { s with
        monitor := { s.monitor with phase := .run, waitClocks := 0, divider := 0 }
        pins := { s.pins with address := address, rate := rate }
        straps := ⟨address, rate⟩
        plans := ⟨plan, plan, source⟩
        portals := ⟨PortalUnit.started plan.portals.a, PortalUnit.started plan.portals.b⟩
        photometers := ⟨Photometer.started plan.portals.a, Photometer.started plan.portals.b⟩
        engine := ZoneEngine.started plan.general
        claims := ClaimTable.empty
        stage := Stage.loaded plan s.safety.trip
        faults := initialFaults
        lines := ⟨LinePort.initial, LinePort.initial, LinePort.initial⟩ } := by
  simp only [startUp, h, PlanMemory.loaded]

theorem Photometer.started_eq (r : PortalRecord) :
    Photometer.started r =
      if r.mode = .station ∨ r.constS = 0 then Photometer.off
      else { Photometer.off with state := .waiting, interval := some (1000 * r.interval) } := by
  simp [started, PortalRecord.photometerOff]

/-- Settles O51: the entry field by field, the release by the causes left, the start-up by the image. -/
theorem resetHoldsReleasesAndStarts : Obligations.ResetHoldsReleasesAndStarts := by
  unfold Obligations.ResetHoldsReleasesAndStarts
  refine ⟨fun s c => ?entry, fun s c hheld hstands => ?release, fun s c h => ?noRelease,
    fun s address rate plan source hwait hplan => ?start, fun image => storedPlan_of_invalid,
    fun s address rate hphase => congrArg Host.Outcome.next (if_neg hphase)⟩
  case entry =>
    refine ⟨_, exec_resetEntry s c, rfl, s.monitor.stands_enter c, (s.monitor.setCause_frame c true).2, rfl, rfl, rfl,
      rfl, rfl, Stage.loaded_quiet builtInPlan false, forall_portal.2 ⟨⟨rfl, rfl, rfl, rfl⟩, ⟨rfl, rfl, rfl, rfl⟩⟩,
      fun x hx => List.eq_of_mem_replicate hx,
      forall_line.2 ⟨⟨rfl, rfl, rfl, rfl⟩, ⟨rfl, rfl, rfl, rfl⟩, ⟨rfl, rfl, rfl, rfl⟩⟩,
      Store.abandoned_invalid, fun hidle => ?_⟩
    exact s.store.abandoned_eq.2.2.2 (by simp [hidle])
  case release =>
    refine ⟨_, exec_resetRelease hheld hstands, rfl, s.monitor.stands_leave c, fun hlast => ?_, fun hother => ?_⟩
    · simp only [Monitor.leave_of_last hlast, if_true, SafetyInputs.tripPin_eq]
      exact ⟨trivial, trivial, trivial, trivial, trivial⟩
    · obtain ⟨hphase, hcause⟩ := s.monitor.setCause_frame c false
      simp only [Monitor.leave_of_other hother, hphase, hheld, hcause]
      exact ⟨trivial, trivial, rfl, trivial⟩
  case noRelease =>
    refine congrArg Host.Outcome.next (if_neg ?_)
    rintro ⟨hheld, hstands⟩
    rcases h with h | h
    · exact h hheld
    · exact absurd hstands (by simp [h])
  case start =>
    have hloaded := State.startUp_eq (s := s) address rate (startUpPlan_eq hplan)
    refine ⟨_, (exec_startUp hwait address rate).trans (congrArg _ hloaded), rfl, forall_portal.2 ⟨rfl, rfl⟩,
      forall_portal.2 ⟨Photometer.started_eq _, Photometer.started_eq _⟩, forall_line.2 ⟨rfl, rfl, rfl⟩⟩

/-! ### The state after reset -/

/-- Settles O52: the three commands, evaluated, and each invariant of the one state. -/
theorem resetStateMeetsTheInvariants : Obligations.ResetStateMeetsTheInvariants := by
  unfold Obligations.ResetStateMeetsTheInvariants
  have hplans : PlansSound State.reset := ⟨builtInPlan_sound.1, builtInPlan_sound.2, builtInPlan_sound.1⟩
  refine ⟨rfl, hplans, by decide, by decide, by decide, ZoneEngine.started_levels _, Stage.loaded_duties builtInPlan false,
    by decide, by decide, initialFaults_not_faulted _, by decide, by decide, by decide⟩

end Sys2Proof.Machine
end

section
/-! PROOFS. The line ports (10_field_lines): characters, frames, timers, pins. -/

namespace Sys2Proof.Machine

/-! ### Address characters (R183, R184, R188) -/

theorem State.matches_iff (s : State) (v : Byte) :
    s.matches v = true ↔ v = 0 ∨ (s.straps.address ≠ 0 ∧ v.toNat = s.straps.address.toNat) := by
  have haddress : v = s.straps.address.setWidth 8 ↔ v.toNat = s.straps.address.toNat := by
    rw [BitVec.toNat_eq, BitVec.toNat_setWidth, Nat.mod_eq_of_lt]
    have := s.straps.address.isLt
    omega
  simp only [State.matches, Bool.or_eq_true, beq_iff_eq, Bool.and_eq_true, bne_iff_ne, haddress]

theorem LinePort.address_of_reply {x : LinePort} (isMatch : Bool) (v : Byte) (h : x.state = .reply) :
    x.address isMatch v = x := by
  simp only [address, h]

/-- A character for another station leaves a port that does not send in LISTEN. -/
theorem LinePort.address_of_other {x : LinePort} (v : Byte) (h : x.state ≠ .reply) :
    (x.address false v).state = .listen ∧ (x.address false v).frame = [] ∧ (x.address false v).silence = none := by
  unfold LinePort.address
  cases hx : x.state with
  | reply => exact absurd hx h
  | listen => exact ⟨rfl, rfl, rfl⟩
  | collect => exact ⟨rfl, rfl, rfl⟩
  | turnaround => exact ⟨rfl, rfl, rfl⟩

/-- What an address character rejects or drops. -/
theorem LinePort.address_counts (x : LinePort) (isMatch : Bool) (v : Byte) :
    (x.address isMatch v).rejected = (if x.state = .collect then bump x.rejected else x.rejected)
      ∧ (x.address isMatch v).dropped = (if x.state = .turnaround then bump x.dropped else x.dropped)
      ∧ (x.address isMatch v).reply = (if x.state = .turnaround then [] else x.reply) := by
  unfold LinePort.address takeAddress
  cases hx : x.state <;> cases isMatch <;> simp

theorem exec_addressCharacter {s : State} (h : s.started = true) (l : Line) (v : Byte) :
    exec (.addressCharacter l v) s = .next (s.addressChar l v) := congrArg Host.Outcome.next (if_pos h)

/-- Settles O44: the port by its line state and by whether the character matches. -/
theorem addressCharactersStartFrames : Obligations.AddressCharactersStartFrames := by
  unfold Obligations.AddressCharactersStartFrames
  intro s l v hs
  obtain ⟨hrejected, hdropped, hreply⟩ := (s.lines.get l).address_counts (s.matches v) v
  refine ⟨_, exec_addressCharacter hs l v, LinePort.address_of_reply _ v, fun hst hmatch => ?_, fun hst hother => ?_,
    hrejected, hdropped, hreply⟩
  · rw [(s.matches_iff v).2 hmatch]
    exact LinePort.address_of_match v hst
  · rw [Bool.eq_false_iff.2 fun hmatch => hother ((s.matches_iff v).1 hmatch)]
    exact LinePort.address_of_other v hst

/-! ### Data characters (R184 to R188) -/

theorem exec_dataCharacter {s : State} (h : s.started = true) (l : Line) (v : Byte) :
    exec (.dataCharacter l v) s = .next (s.dataChar l v) := congrArg Host.Outcome.next (if_pos h)

theorem State.dataChar_passed {s : State} {l : Line} (v : Byte)
    (h : (s.lines.get l).state = .listen ∨ (s.lines.get l).state = .reply) : s.dataChar l v = s := by
  unfold dataChar
  rcases h with h | h <;> rw [h]

theorem State.dataChar_collect {s : State} {l : Line} (v : Byte) (h : (s.lines.get l).state = .collect) :
    s.dataChar l v = s.collectChar l v := by
  simp only [dataChar, h]

/-- The character after the address character is LEN. -/
theorem State.collectChar_len {s : State} {l : Line} {a : Byte} (v : Byte) (h : (s.lines.get l).frame = [a]) :
    s.collectChar l v =
      if v = 0 ∨ 60 < v.toNat then s.setLine l (s.lines.get l).reject
      else s.setLine l { s.lines.get l with frame := [a, v], silence := some 0 } := by
  simp only [collectChar, h, List.cons_append, List.nil_append]

/-- A character after LEN is of the body, or CHECK. -/
theorem State.collectChar_body {s : State} {l : Line} {a len : Byte} {body : List Byte} (v : Byte)
    (h : (s.lines.get l).frame = a :: len :: body) :
    s.collectChar l v =
      if body.length = len.toNat then
        if charSum (a :: len :: (body ++ [v])) = 0 then s.handOver l (a == 0) body
        else s.setLine l (s.lines.get l).reject
      else s.setLine l { s.lines.get l with frame := a :: len :: (body ++ [v]), silence := some 0 } := by
  obtain ⟨b, more, hmore⟩ : ∃ b more, body ++ [v] = b :: more := List.exists_cons_of_ne_nil (by simp)
  have hlength : (b :: more).length = len.toNat + 1 ↔ body.length = len.toNat := by
    rw [← hmore, List.length_append]
    simp
  simp only [collectChar, h, List.cons_append, hmore, hlength]
  split
  · rename_i hlen
    rw [← hmore, ← hlen, List.take_left]
  · rfl

/-- No broadcast touches a port before its frame is through. -/
theorem dispatchBroadcast_lines (l : Line) (kind : Byte) (fields : List Byte) (s : State) (m : Line) :
    (dispatchBroadcast l kind fields s).lines.get m = s.lines.get m := by
  unfold dispatchBroadcast
  split
  · exact (ownerTakes_port .setDirection l m fields s).resolve_right fun h => absurd h.1 (by decide)
  · split
    · rfl
    · exact (ownerTakes_port .report l m fields s).resolve_right fun h => absurd h.1 (by decide)
  · rfl

/-- The reply frame by the numbers of its characters (R189, R194, R195). -/
theorem State.replyFrame_toNat (s : State) (kind : Byte) {a : Answer} (h : a.payload.length ≤ 58) :
    (s.replyFrame kind a).map BitVec.toNat =
      [64 + s.straps.address.toNat, 2 + a.payload.length, (kind.toNat + 128) % 256, a.result.code.toNat]
        ++ a.payload.map BitVec.toNat
        ++ [(checkOf (u8 (0x40 + s.straps.address.toNat) :: u8 (a.body kind).length :: a.body kind)).toNat] := by
  have haddress : (u8 (0x40 + s.straps.address.toNat)).toNat = 64 + s.straps.address.toNat := by
    have := s.straps.address.isLt
    exact u8_toNat_of_lt (by omega)
  have hlength : (u8 (a.body kind).length).toNat = 2 + a.payload.length := by
    rw [u8_toNat_of_lt] <;> simp only [Answer.body, List.length_cons] <;> omega
  have hkind : (kind + 0x80).toNat = (kind.toNat + 128) % 256 := BitVec.toNat_add ..
  simp only [replyFrame, frameOf, List.map_append, List.map_cons, List.map_nil, haddress, hlength]
  simp only [Answer.body, List.map_cons, hkind, List.cons_append, List.nil_append]

theorem charSum_eq_zero_iff (l : List Byte) : charSum l = 0 ↔ (l.map BitVec.toNat).sum % 256 = 0 := by
  rw [← charSum_toNat, BitVec.toNat_eq]
  rfl

/-- Settles O45: the character by the line state and the part of the frame it meets; the reply frame. -/
theorem dataCharactersBuildFrames : Obligations.DataCharactersBuildFrames := by
  unfold Obligations.DataCharactersBuildFrames
  refine ⟨fun s l v hs => ?_, fun s kind a ha => ⟨_, s.replyFrame_toNat kind ha, ?_⟩, rfl⟩
  · rw [exec_dataCharacter hs]
    refine ⟨fun hst => by rw [State.dataChar_passed v hst], fun hst => ?_, fun a hst hf hlen => ?_,
      fun a hst hf hlow hhigh => ?_, fun a len body hst hf hlen => ?_, fun a len body hst hf hlen hsum => ?_,
      fun a len kind fields hst hf (hlen : (kind :: fields).length = len.toNat) hsum =>
        ⟨fun ha => ⟨_, rfl, ?_, ?_⟩, fun ha => ⟨_, rfl, ?_, ?_⟩⟩⟩
    · simp only [State.dataChar, hst]
    · rw [State.dataChar_collect v hst, State.collectChar_len v hf, if_pos hlen]
    · rw [State.dataChar_collect v hst, State.collectChar_len v hf, if_neg]
      rintro (rfl | h)
      · exact absurd hlow (by decide)
      · omega
    · rw [State.dataChar_collect v hst, State.collectChar_body v hf, if_neg hlen.ne]
    · rw [State.dataChar_collect v hst, State.collectChar_body v hf, if_pos hlen, if_neg]
      exact fun h => hsum ((charSum_eq_zero_iff _).1 h)
    · have hgood : charSum (a :: len :: (kind :: fields ++ [v])) = 0 := (charSum_eq_zero_iff _).2 hsum
      rw [State.dataChar_collect v hst, State.collectChar_body v hf, if_pos hlen, if_pos hgood, beq_eq_false_iff_ne.2 ha]
      rfl
    · simp
    · have hgood : charSum (a :: len :: (kind :: fields ++ [v])) = 0 := (charSum_eq_zero_iff _).2 hsum
      rw [State.dataChar_collect v hst, State.collectChar_body v hf, if_pos hlen, if_pos hgood, ha]
      rfl
    · simp [dispatchBroadcast_lines]
  · rw [← charSum_eq_zero_iff]
    exact charSum_frameOf _ _

/-! ### Timers, errors and pins (R182, R185, R188, R189, R192) -/

/-- The bit reached, from the clocks sent. -/
theorem State.transmitData_of_bit {s : State} {l : Line} {j i : Nat} {v : Byte} (hst : (s.lines.get l).state = .reply)
    (hv : (s.lines.get l).reply[j]? = some v) (hi : i ≤ 10)
    (hlow : (11 * j + i) * 16000000 ≤ (s.lines.get l).sent * bitRate s.straps.rate)
    (hhigh : (s.lines.get l).sent * bitRate s.straps.rate < (11 * j + i + 1) * 16000000) :
    s.transmitData l = charBit (j == 0) v i := by
  have hbit : (s.lines.get l).sent * bitRate s.straps.rate / Config.clockHz = 11 * j + i :=
    Nat.div_eq_of_lt_le hlow hhigh
  have hj : (11 * j + i) / 11 = j := by omega
  have hmod : (11 * j + i) % 11 = i := by omega
  simp only [State.transmitData, hst, if_true, hbit, hj, hmod, hv]

/-- Settles O46: each event in its line state and in the others; the pins at rest and in REPLY. -/
theorem lineTimersAndErrors : Obligations.LineTimersAndErrors := by
  unfold Obligations.LineTimersAndErrors
  refine ⟨fun s l hs => ?_, fun s l hst => ?_, fun s l j i v hst hv hi hlow hhigh => ?_⟩
  · have herror : exec (.framingError l) s = .next (s.setLine l (s.lines.get l).framingError) :=
      congrArg Host.Outcome.next (if_pos hs)
    have hgap : exec (.gapTimeout l) s = .next (s.setLine l (s.lines.get l).gap) :=
      congrArg Host.Outcome.next (if_pos hs)
    have hsilence : exec (.turnaroundSilence l) s = .next (s.setLine l (s.lines.get l).beginReply) :=
      congrArg Host.Outcome.next (if_pos hs)
    have hend : exec (.replyEnd l) s = .next (s.setLine l (s.lines.get l).endReply) :=
      congrArg Host.Outcome.next (if_pos hs)
    rw [herror, hgap, hsilence, hend]
    refine ⟨fun hst => ⟨_, rfl, ?_, ?_⟩, fun hst => ?_, fun hst => ?_, fun hst => ⟨?_, _, rfl, ?_, ?_⟩, fun hst => ?_,
      fun hst => ⟨_, rfl, ?_, ?_⟩, fun hst => ?_⟩
    · simp only [LinePort.framingError, hst]
      rfl
    · simp only [LinePort.gap, hst]
      rfl
    · rw [LinePort.gap, if_neg hst, State.setLine_self]
    · rcases hst with hst | hst <;> simp only [LinePort.framingError, hst, State.setLine_self]
    · simp only [LinePort.framingError, hst]
    · rw [LinePort.beginReply, if_pos hst]
    · simp [State.driverEnable, LinePort.beginReply, hst]
    · rw [LinePort.beginReply, if_neg hst, State.setLine_self]
    · rw [LinePort.endReply, if_pos hst]
    · simp [State.driverEnable, LinePort.endReply, hst]
    · rw [LinePort.endReply, if_neg hst, State.setLine_self]
  · exact ⟨if_neg hst, beq_eq_false_iff_ne.2 hst⟩
  · refine ⟨beq_iff_eq.2 hst, ?_⟩
    rw [State.transmitData_of_bit hst hv hi hlow hhigh]
    simp only [charBit, beq_eq_decide]

/-! ### A frame character by character -/

/-- `s` with another frame and silence timer at line `l`. -/
def State.withFrame (s : State) (l : Line) (frame : List Byte) (silence : Option Nat) : State :=
  s.setLine l { s.lines.get l with frame := frame, silence := silence }

/-- Owners but those of READ PART and CLEAR COUNTS neither read nor write a line port. -/
theorem ownerTakes_withLines {k : Kind} (hread : k ≠ .readPart) (hclear : k ≠ .clearCounts) (l : Line) (fields : List Byte)
    (s : State) (ports : PerLine LinePort) :
    ownerTakes k l fields { s with lines := ports } =
      ({ (ownerTakes k l fields s).1 with lines := ports }, (ownerTakes k l fields s).2) := by
  cases k with
  | readPart => exact absurd rfl hread
  | clearCounts => exact absurd rfl hclear
  | _ =>
    simp only [ownerTakes, takeReport, takeReadPortals, takeReadZones, takeReadChannels, takeReadClaims, takeClaim,
      takeRelease, takeWithdraw, takeSetDirection, takeClearFire, takeClearTrip, takeAckEvents, takeClearFaults,
      takePlanRead, takeDraftLoad, takeDraftPut, takeAdopt, takeSave, State.takeAway]
    repeat' split
    all_goals rfl

/-- No owner reads or writes a frame buffer or a silence timer. -/
theorem ownerTakes_withFrame (k : Kind) (l m : Line) (fields frame : List Byte) (silence : Option Nat) (s : State) :
    ownerTakes k l fields (s.withFrame m frame silence) =
      ((ownerTakes k l fields s).1.withFrame m frame silence, (ownerTakes k l fields s).2) := by
  by_cases hclear : k = .clearCounts
  · subst hclear
    by_cases h : fields = []
    · cases m <;> simp only [ownerTakes, takeClearCounts, h, if_true] <;> rfl
    · simp [ownerTakes, takeClearCounts, h]
  · by_cases hread : k = .readPart
    · subst hread
      by_cases h : fields = []
      · cases m <;> cases l <;> simp only [ownerTakes, takeReadPart, h, if_true] <;> rfl
      · simp [ownerTakes, takeReadPart, h]
    · have hlines : (ownerTakes k l fields s).1.lines = s.lines :=
        PerLine.ext_get fun n => (ownerTakes_port k l n fields s).resolve_right fun h => hclear h.1
      exact (ownerTakes_withLines hread hclear l fields s _).trans (by rw [State.withFrame, State.setLine, hlines])

theorem dispatch_withFrame (l m : Line) (kind : Byte) (fields frame : List Byte) (silence : Option Nat) (s : State) :
    dispatch l kind fields (s.withFrame m frame silence) =
      ((dispatch l kind fields s).1.withFrame m frame silence, (dispatch l kind fields s).2) := by
  unfold dispatch
  split
  · rfl
  · split
    · exact ownerTakes_withFrame ..
    · rfl

theorem dispatchBroadcast_withFrame (l m : Line) (kind : Byte) (fields frame : List Byte) (silence : Option Nat) (s : State) :
    dispatchBroadcast l kind fields (s.withFrame m frame silence) =
      (dispatchBroadcast l kind fields s).withFrame m frame silence := by
  unfold dispatchBroadcast
  split
  · exact congrArg Prod.fst (ownerTakes_withFrame .setDirection l m fields frame silence s)
  · split
    · rfl
    · exact congrArg Prod.fst (ownerTakes_withFrame .report l m fields frame silence s)
  · rfl

/-- The hand-over empties the frame buffer and sets the silence timer, whatever they held. -/
theorem State.handOver_withFrame (s : State) (l : Line) (bc : Bool) (frame : List Byte) (silence : Option Nat)
    {body : List Byte} (h : body ≠ []) : (s.withFrame l frame silence).handOver l bc body = s.handOver l bc body := by
  obtain ⟨kind, fields, rfl⟩ := List.exists_cons_of_ne_nil h
  cases bc with
  | true =>
    simp only [handOver, if_true, dispatchBroadcast_withFrame]
    simp [State.withFrame, listening, LinePort.afterBroadcast]
  | false =>
    simp only [handOver, Bool.false_eq_true, if_false, dispatch_withFrame]
    simp [State.withFrame, answered, LinePort.afterRequest]

theorem State.feed_cons {s : State} (h : s.started = true) (l : Line) (v : Byte) (rest : List Byte) :
    s.feed l (v :: rest) = (s.dataChar l v).feed l rest := by
  simp only [feed, exec_dataCharacter h]

/-- A port that does not collect passes over data characters. -/
theorem State.feed_passed {s : State} {l : Line} (hs : s.started = true)
    (h : (s.lines.get l).state = .listen ∨ (s.lines.get l).state = .reply) (chars : List Byte) :
    s.feed l chars = .next s := by
  induction chars with
  | nil => rfl
  | cons v rest ih => rw [feed_cons hs, dataChar_passed v h, ih]

/-- The characters of the body are appended one by one. -/
theorem State.feed_body {s : State} {l : Line} {a len : Byte} (hs : s.started = true)
    (hst : (s.lines.get l).state = .collect) (taken rest more : List Byte) (hlen : taken.length + rest.length ≤ len.toNat) :
    (s.withFrame l (a :: len :: taken) (some 0)).feed l (rest ++ more) =
      (s.withFrame l (a :: len :: (taken ++ rest)) (some 0)).feed l more := by
  induction rest generalizing taken with
  | nil => simp
  | cons v rest ih =>
    have hcollect : ((s.withFrame l (a :: len :: taken) (some 0)).lines.get l).state = .collect := by
      simpa [State.withFrame] using hst
    have hframe : ((s.withFrame l (a :: len :: taken) (some 0)).lines.get l).frame = a :: len :: taken := by
      simp [State.withFrame]
    have hchar : (s.withFrame l (a :: len :: taken) (some 0)).dataChar l v =
        s.withFrame l (a :: len :: (taken ++ [v])) (some 0) := by
      rw [dataChar_collect v hcollect, collectChar_body v hframe, if_neg]
      · simp [State.withFrame]
      · rw [List.length_cons] at hlen
        omega
    have hs' : (s.withFrame l (a :: len :: taken) (some 0)).started = true := hs
    rw [List.cons_append, feed_cons hs', hchar, ih _ (by simp at hlen ⊢; omega)]
    simp

/-- A frame given character by character is the request. -/
theorem State.feedFrame_frameOf {s : State} (l : Line) (bc : Bool) {body : List Byte} (hs : s.started = true)
    (hbody : body ≠ []) (hfit : body.length ≤ 60) :
    s.feedFrame l (frameOf (s.frameAddress bc) body) = .next (s.request l bc body) := by
  have hpos := List.length_pos_iff.2 hbody
  have hlen : (u8 body.length).toNat = body.length := u8_toNat_of_lt (by omega)
  have haddress : s.feedFrame l (frameOf (s.frameAddress bc) body) = (s.addressed l bc).feed l
      (u8 body.length :: (body ++ [checkOf (s.frameAddress bc :: u8 body.length :: body)])) := by
    simp only [frameOf, List.cons_append, feedFrame, exec_addressCharacter hs]
    rfl
  rw [haddress]
  by_cases hst : (s.lines.get l).state = .reply
  · have hsame : s.addressed l bc = s := by
      rw [addressed, addressChar, LinePort.address_of_reply _ _ hst, setLine_self]
    rw [hsame, feed_passed hs (.inr hst), request_unheard fun h => h.2 hst]
  · have hrequest : s.request l bc body = (s.addressed l bc).frameRest l bc (s.matches (s.frameAddress bc)) body := by
      simp [request, hs, hst]
    rw [hrequest]
    cases hmatch : s.matches (s.frameAddress bc) with
    | false =>
      refine feed_passed (s := s.addressed l bc) hs (.inl ?_) _
      rw [addressed_lines, PerLine.get_set_self, hmatch]
      exact (LinePort.address_of_other _ hst).1
    | true =>
      have hport : (s.addressed l bc).lines.get l = (s.lines.get l).address true (s.frameAddress bc) := by
        rw [addressed_lines, PerLine.get_set_self, hmatch]
      obtain ⟨hcollect, hframe, -⟩ := LinePort.address_of_match (s.frameAddress bc) hst
      rw [← hport] at hcollect hframe
      have hstart : (s.addressed l bc).dataChar l (u8 body.length) =
          (s.addressed l bc).withFrame l [s.frameAddress bc, u8 body.length] (some 0) := by
        rw [dataChar_collect _ hcollect, collectChar_len _ hframe, if_neg]
        · rfl
        · rintro (h | h)
          · rw [h] at hlen
            exact hpos.ne hlen
          · omega
      have hcollect' : (((s.addressed l bc).withFrame l (s.frameAddress bc :: u8 body.length :: body) (some 0)).lines.get
          l).state = .collect := by
        simpa [State.withFrame] using hcollect
      have hs' : (s.addressed l bc).started = true := hs
      have hs'' : ((s.addressed l bc).withFrame l (s.frameAddress bc :: u8 body.length :: body) (some 0)).started = true :=
        hs
      have hsum : charSum (s.frameAddress bc :: u8 body.length :: (body
          ++ [checkOf (s.frameAddress bc :: u8 body.length :: body)])) = 0 := charSum_frameOf _ _
      rw [feed_cons hs', hstart, feed_body hs' hcollect [] body _ (by simp [hlen]), List.nil_append, feed_cons hs'',
        dataChar_collect _ hcollect', collectChar_body (body := body) (a := s.frameAddress bc) (len := u8 body.length) _
          (by simp [State.withFrame]), if_pos hlen.symm, if_pos hsum, frameAddress_eq_zero,
        handOver_withFrame _ _ _ _ _ hbody]
      simp [feed, frameRest, hbody, Nat.not_lt.2 hfit]

/-- Settles O43: the frame of a request command, fed character by character. -/
theorem charactersMakeTheRequest : Obligations.CharactersMakeTheRequest := by
  unfold Obligations.CharactersMakeTheRequest
  refine ⟨fun k l bc fields s hf hs => ?_, fun k l bc fields s hf hs => ?_⟩
  · exact (exec_command ..).trans (State.feedFrame_frameOf l bc hs (List.cons_ne_nil _ _) (Nat.succ_le_succ hf)).symm
  · exact (exec_unknownKind ..).trans (State.feedFrame_frameOf l bc hs (List.cons_ne_nil _ _) (Nat.succ_le_succ hf)).symm

/-! ### Refusals (R187, R193, R196) -/

theorem Kind.not_allowed {k : Kind} {l : Line} (h : k = .report ∧ l = .s
      ∨ l ≠ .s ∧ k ∈ [Kind.withdraw, .setDirection, .clearFire, .clearTrip, .ackEvents, .clearFaults, .clearCounts,
          .planRead, .draftLoad, .draftPut, .adopt, .save]) : k.allowed l = false := by
  rcases h with ⟨rfl, rfl⟩ | ⟨hl, hk⟩
  · rfl
  · cases k <;> simp [allowed] at hk ⊢ <;> exact hl

/-- A kind without fields, on a line that may send it. -/
theorem Kind.fieldless {k : Kind} {l : Line} (h : k ∈ [Kind.readZones, .readPortals, .readPart]
      ∨ l = .s ∧ k ∈ [Kind.draftLoad, .adopt, .save, .clearFire, .clearTrip, .clearCounts]) :
    k.allowed l = true ∧ ∀ (fields : List Byte) (s : State), fields ≠ [] →
      ownerTakes k l fields s = (s, .plain .badField) := by
  rcases h with hk | ⟨rfl, hk⟩
  · simp only [List.mem_cons, List.not_mem_nil, or_false] at hk
    rcases hk with rfl | rfl | rfl
    all_goals exact ⟨rfl, fun fields s hne => if_neg hne⟩
  · simp only [List.mem_cons, List.not_mem_nil, or_false] at hk
    rcases hk with rfl | rfl | rfl | rfl | rfl | rfl
    case inl => exact ⟨rfl, fun fields s hne => if_neg hne⟩
    case inr.inl => exact ⟨rfl, fun fields s hne => if_neg hne⟩
    case inr.inr.inr.inr.inr => exact ⟨rfl, fun fields s hne => if_neg hne⟩
    all_goals exact ⟨rfl, fun fields s hne => if_pos hne⟩

theorem dispatchBroadcast_of_dropped {kind : Byte} (h : kind ≠ Kind.report.code ∧ kind ≠ Kind.setDirection.code)
    (l : Line) (fields : List Byte) (s : State) : dispatchBroadcast l kind fields s = s := by
  unfold dispatchBroadcast
  split
  · exact absurd (Kind.ofCode_eq_some ‹_›).symm h.2
  · exact absurd (Kind.ofCode_eq_some ‹_›).symm h.1
  · rfl

/-- Settles O47: the refusals in the order of R193, then the broadcasts that are dropped. -/
theorem refusedRequestsChangeNothing : Obligations.RefusedRequestsChangeNothing := by
  unfold Obligations.RefusedRequestsChangeNothing
  refine ⟨fun s l k fields h hf hk => ?_, fun s l k fields h hf hline => exec_refusedLine k h hf (Kind.not_allowed hline),
    fun s l k fields h hf hne hk => ?_, fun s l k fields h hf hreport hdirection => ?_, fun s l k fields h hf hk => ?_⟩
  · rw [exec_unknownKind, request_reached h hf]
    simp only [dispatch, Kind.ofCode_eq_none hk]
    rfl
  · obtain ⟨hallowed, howner⟩ := Kind.fieldless hk
    exact exec_repliedOnly k h hf hallowed (howner fields _ hne)
  · refine exec_broadcast k h hf (dispatchBroadcast_of_dropped ⟨?_, ?_⟩ _ _ _)
    · exact fun hcode => hreport (Option.some.inj (by rw [← Kind.ofCode_code, hcode, Kind.ofCode_code]))
    · exact fun hcode => hdirection (Option.some.inj (by rw [← Kind.ofCode_code, hcode, Kind.ofCode_code]))
  · rw [exec_unknownKind, request_broadcast h hf, dispatchBroadcast_of_dropped ⟨(hk _).symm, (hk _).symm⟩]

/-! ### What every step keeps (R181, R185, R190) -/

/-- The address character's part of a port's rule: whatever it rejects or drops, the port collects its frame or listens. -/
theorem LinePort.address_sound {x : LinePort} (h : PortSound x) (isMatch : Bool) (v : Byte) :
    PortSound (x.address isMatch v) := by
  obtain ⟨hrejected, hdropped, hrest⟩ := h
  obtain ⟨hr, hd, -⟩ := x.address_counts isMatch v
  refine ⟨?_, ?_, ?_⟩
  · rw [hr]
    split
    · exact bump_le _
    · exact hrejected
  · rw [hd]
    split
    · exact bump_le _
    · exact hdropped
  · by_cases hst : x.state = .reply
    · rwa [address_of_reply _ v hst]
    · cases isMatch with
      | true =>
        obtain ⟨hcollect, hframe, -⟩ := address_of_match v hst
        exact ⟨fun hnot => absurd hcollect hnot, fun _ => .inl (by rw [hframe]; rfl)⟩
      | false =>
        obtain ⟨hlisten, hframe, -⟩ := address_of_other v hst
        exact ⟨fun _ => hframe, fun hcollect => absurd (hlisten.symm.trans hcollect) (by decide)⟩

/-- One more character of a frame whose LEN, once taken, leaves room for it. -/
theorem frame_append_sound {frame : List Byte} {v : Byte}
    (h : frame.length = 1
      ∨ (2 ≤ frame.length ∧ 1 ≤ (frame.getD 1 0).toNat ∧ (frame.getD 1 0).toNat ≤ 60
          ∧ frame.length ≤ (frame.getD 1 0).toNat + 2))
    (lenFits : frame.length = 1 → 1 ≤ v.toNat ∧ v.toNat ≤ 60)
    (noCheck : ∀ a len rest, frame = a :: len :: rest → rest.length ≠ len.toNat) :
    2 ≤ (frame ++ [v]).length ∧ 1 ≤ ((frame ++ [v]).getD 1 0).toNat ∧ ((frame ++ [v]).getD 1 0).toNat ≤ 60
      ∧ (frame ++ [v]).length ≤ ((frame ++ [v]).getD 1 0).toNat + 2 := by
  rcases h with h | ⟨hlong, hlow, hhigh, hroom⟩
  · obtain ⟨a, rfl⟩ := List.length_eq_one_iff.1 h
    obtain ⟨hlow, hhigh⟩ := lenFits h
    simp only [List.cons_append, List.nil_append, List.length_cons, List.length_nil, List.getD_cons_succ,
      List.getD_cons_zero]
    omega
  · obtain ⟨a, more, rfl⟩ := List.exists_cons_of_ne_nil (List.ne_nil_of_length_pos (by omega : 0 < frame.length))
    obtain ⟨len, rest, rfl⟩ := List.exists_cons_of_ne_nil
      (List.ne_nil_of_length_pos (Nat.le_of_succ_le_succ hlong : 1 ≤ more.length))
    have hcheck := noCheck a len rest rfl
    simp only [List.cons_append, List.length_cons, List.length_append, List.length_nil, List.getD_cons_succ,
      List.getD_cons_zero] at hlow hhigh hroom ⊢
    omega

theorem PortMove.sound {isMatch : Byte → Bool} {x y : LinePort} (hm : PortMove isMatch x y) (h : PortSound x) :
    PortSound y := by
  obtain ⟨hrejected, hdropped, hempty, hframe⟩ := h
  cases hm with
  | address v => exact LinePort.address_sound ⟨hrejected, hdropped, hempty, hframe⟩ _ v
  | reject => exact ⟨bump_le _, hdropped, fun _ => rfl, fun h => absurd h (by simp)⟩
  | keep v collects lenFits noCheck =>
    exact ⟨hrejected, hdropped, fun hnot => absurd collects hnot,
      fun _ => .inr (frame_append_sound (hframe collects) lenFits noCheck)⟩
  | restartSilence waits => exact ⟨hrejected, hdropped, hempty, hframe⟩
  | afterBroadcast => exact ⟨hrejected, hdropped, fun _ => rfl, fun h => absurd h (by simp)⟩
  | afterRequest a reply collects startsWith isAddressed =>
    exact ⟨hrejected, hdropped, fun _ => rfl, fun h => absurd h (by simp)⟩
  | beginReply =>
    unfold LinePort.beginReply
    split
    · rename_i hst
      exact ⟨hrejected, hdropped, fun _ => hempty (by simp [hst]), fun h => absurd h (by simp)⟩
    · exact ⟨hrejected, hdropped, hempty, hframe⟩
  | endReply =>
    unfold LinePort.endReply
    split
    · rename_i hst
      exact ⟨hrejected, hdropped, fun _ => hempty (by simp [hst]), fun h => absurd h (by simp)⟩
    · exact ⟨hrejected, hdropped, hempty, hframe⟩

/-- At a part that only broadcasts match, no port comes to hold a reply. -/
theorem PortMove.silent {isMatch : Byte → Bool} (hmatch : ∀ v, isMatch v = true → v = 0) {x y : LinePort}
    (hm : PortMove isMatch x y) (h : PortSilent x) : PortSilent y := by
  have hreply : x.state ≠ .reply := fun hst => by rcases h with h | ⟨h, -⟩ <;> simp [hst] at h
  have hturnaround : x.state ≠ .turnaround := fun hst => by rcases h with h | ⟨h, -⟩ <;> simp [hst] at h
  have hzero : x.state = .collect → x.frame.head? = some 0 := fun hst => by
    rcases h with h | ⟨-, h⟩
    · simp [hst] at h
    · exact h
  cases hm with
  | address v =>
    cases hv : isMatch v with
    | true =>
      obtain ⟨hcollect, hframe, -⟩ := LinePort.address_of_match v hreply
      exact .inr ⟨hcollect, by rw [hframe, hmatch v hv]; rfl⟩
    | false => exact .inl (LinePort.address_of_other v hreply).1
  | reject => exact .inl rfl
  | keep v collects lenFits noCheck =>
    refine .inr ⟨collects, ?_⟩
    have hhead := hzero collects
    obtain ⟨a, rest, hframe⟩ := List.exists_cons_of_ne_nil (l := x.frame) fun hnil => by simp [hnil] at hhead
    simpa [hframe] using hhead
  | restartSilence waits => exact absurd waits hturnaround
  | afterBroadcast => exact .inl rfl
  | afterRequest a reply collects startsWith isAddressed =>
    exact absurd (Option.some.inj (startsWith.symm.trans (hzero collects))) isAddressed
  | beginReply =>
    rw [LinePort.beginReply, if_neg hturnaround]
    exact h
  | endReply =>
    rw [LinePort.endReply, if_neg hreply]
    exact h

/-- A clock moves the silence timer and the reply being sent alone of a port. -/
theorem LinePort.clock_frame (l : Line) (rate : BitVec 2) (x : LinePort) :
    (x.clock l rate).1 = { x with silence := (x.clock l rate).1.silence, sent := (x.clock l rate).1.sent } := by
  unfold clock
  cases x with
  | mk state _ _ _ _ _ _ =>
    cases state with
    | listen => rfl
    | collect => simp only; split <;> rfl
    | turnaround => simp only; split <;> rfl
    | reply => simp only; split <;> rfl

theorem State.clock_lines (s : State) (l : Line) :
    s.clock.lines.get l =
      { s.lines.get l with silence := (s.clock.lines.get l).silence, sent := (s.clock.lines.get l).sent } := by
  unfold State.clock
  split
  · rfl
  · rfl
  · cases l <;> exact LinePort.clock_frame ..

theorem State.clearCounts_lines (s : State) (l : Line) :
    (PerLine.mk s.lines.a.zeroCounts s.lines.b.zeroCounts s.lines.s.zeroCounts).get l = (s.lines.get l).zeroCounts := by
  cases l <;> rfl

theorem LinePort.initial_sound : PortSound LinePort.initial := by decide

theorem Effect.keeps_portsSound {s t : State} (he : Effect s t) (h : ∀ l, PortSound (s.lines.get l)) :
    ∀ l, PortSound (t.lines.get l) := by
  cases he with
  | clock =>
    intro l
    rw [State.clock_lines]
    exact h l
  | port l x move =>
    intro m
    rw [State.setLine_lines, PerLine.get_set]
    split
    · exact move.sound (h l)
    · exact h m
  | clearCounts =>
    intro l
    show PortSound ((PerLine.mk _ _ _).get l)
    rw [State.clearCounts_lines]
    exact ⟨Nat.zero_le _, Nat.zero_le _, (h l).2.2⟩
  | held m => exact forall_line.2 ⟨LinePort.initial_sound, LinePort.initial_sound, LinePort.initial_sound⟩
  | startUp address rate => exact forall_line.2 ⟨LinePort.initial_sound, LinePort.initial_sound, LinePort.initial_sound⟩
  | _ => exact h

/-- At a listen-only part only a broadcast matches. -/
theorem State.matches_of_listenOnly {s : State} (h : s.straps.address = 0) {v : Byte} (hv : s.matches v = true) : v = 0 :=
  ((s.matches_iff v).1 hv).resolve_right fun haddress => haddress.1 h

theorem Effect.keeps_listenOnlySilent {s t : State} (he : Effect s t)
    (h : s.straps.address = 0 → ∀ l, PortSilent (s.lines.get l)) :
    t.straps.address = 0 → ∀ l, PortSilent (t.lines.get l) := by
  cases he with
  | clock =>
    intro hzero l
    rw [State.clock_straps] at hzero
    rw [State.clock_lines]
    exact h hzero l
  | port l x move =>
    intro hzero m
    rw [State.setLine_lines, PerLine.get_set]
    split
    · exact move.silent (fun v => State.matches_of_listenOnly hzero) (h hzero l)
    · exact h hzero m
  | clearCounts =>
    intro hzero l
    show PortSilent ((PerLine.mk _ _ _).get l)
    rw [State.clearCounts_lines]
    exact h hzero l
  | held m => exact fun _ => forall_line.2 ⟨.inl rfl, .inl rfl, .inl rfl⟩
  | startUp address rate => exact fun _ => forall_line.2 ⟨.inl rfl, .inl rfl, .inl rfl⟩
  | _ => exact h

/-- Settles O59: the moves of a port, each sound and, at a listen-only part, silent. -/
theorem everyStepKeepsThePortsSound : Obligations.EveryStepKeepsThePortsSound := by
  unfold Obligations.EveryStepKeepsThePortsSound
  refine fun s t h => ⟨fun hs => ?_, fun hs hzero => ?_⟩
  · exact forall_line.1 (step_keeps Effect.keeps_portsSound h (forall_line.2 hs))
  · exact forall_line.1 (step_keeps Effect.keeps_listenOnlySilent h (fun hzero => forall_line.2 (hs hzero)) hzero)

end Sys2Proof.Machine
end

section
/-! PROOFS. Validation and adoption of the draft (R62 to R67). -/

namespace Sys2Proof.Machine

/-! ### Validation (R62, R63) -/

theorem curveFailure_eq_none {c : List Breakpoint} :
    curveFailure c = none ↔ c.IsChain fun a b => a.lum < b.lum ∧ a.demand ≤ b.demand := by
  induction c with
  | nil => simp [curveFailure]
  | cons p rest ih =>
    cases rest with
    | nil => simp [curveFailure]
    | cons q rest =>
      rw [curveFailure, List.isChain_cons_cons, ← ih]
      split_ifs with hlum hdemand
      · simp [Nat.not_lt.2 hlum]
      · simp [Nat.not_le.2 hdemand]
      · simp [Nat.lt_of_not_le hlum, Nat.le_of_not_lt hdemand]

theorem portalFailure_eq_none {n : Nat} {r : PortalRecord} {c : List Breakpoint} :
    portalFailure n r c = none ↔
      (r.mode = .localOnly → r.constS ≠ 0) ∧ c.IsChain fun a b => a.lum < b.lum ∧ a.demand ≤ b.demand := by
  rw [← curveFailure_eq_none, portalFailure]
  split_ifs with h
  · simp [h.1, h.2]
  · have hfirst : r.mode = .localOnly → r.constS ≠ 0 := fun hmode hzero => h ⟨hmode, hzero⟩
    cases curveFailure c with
    | none => simpa using hfirst
    | some reason => simp

theorem ZoneKind.hasPortal_false_iff {k : ZoneKind} : k.hasPortal = false ↔ k = .interior ∨ k = .unused := by
  cases k <;> decide

theorem zoneFailure_eq_none {z : Nat} {r : ZoneRecord} :
    zoneFailure z r = none ↔
      (r.kind = .threshold ∨ r.kind = .transition ∨ r.kind = .exit → r.portal ≠ none)
        ∧ (r.kind = .interior ∨ r.kind = .unused → r.portal = none) ∧ r.floor ≤ r.ceiling := by
  rw [← ZoneKind.hasPortal_iff, ← ZoneKind.hasPortal_false_iff, zoneFailure]
  cases r.kind.hasPortal <;> cases r.portal <;> simp

theorem ChannelRecord.bindsUnused_iff {p : Plan} {r : ChannelRecord} :
    r.bindsUnused p = true ↔ r.zone.map (fun z => (p.zone z).kind) = some .unused := by
  unfold bindsUnused
  cases r.zone <;> simp

theorem channelFailure_eq_none {p : Plan} {c : Nat} {r : ChannelRecord} :
    channelFailure p c r = none ↔ (∀ z, r.zone = some z → (p.zone z).kind ≠ .unused) ∧ r.lo < r.hi := by
  have hbinds : ¬r.bindsUnused p = true ↔ ∀ z, r.zone = some z → (p.zone z).kind ≠ .unused := by
    rw [ChannelRecord.bindsUnused_iff, Option.map_eq_some_iff]
    simp
  rw [← hbinds, channelFailure]
  split_ifs with hunused hlevels
  · simp [hunused]
  · simp [hunused, Nat.not_lt.2 hlevels]
  · simp [hunused, Nat.lt_of_not_le hlevels]

theorem forall_getElem?_iff {α : Type} {P : α → Prop} {l : List α} :
    (∀ (i : Nat) (x : α), l[i]? = some x → P x) ↔ ∀ x ∈ l, P x := by
  simp only [List.mem_iff_getElem?, forall_exists_index]
  exact forall_comm

/-- No member fails where each is searched with its number. -/
theorem findSome?_zipIdx_eq_none {α β : Type} {f : Nat → α → Option β} {l : List α} :
    l.zipIdx.findSome? (fun x => f x.2 x.1) = none ↔ ∀ i x, l[i]? = some x → f i x = none := by
  simp only [List.findSome?_eq_none_iff, Prod.forall, List.mk_mem_zipIdx_iff_getElem?]
  exact ⟨fun h i x => h x i, fun h x i => h i x⟩

theorem Plan.valid_iff (p : Plan) : p.valid = true ↔
    (portalFailure 0 p.portals.a p.curves.a = none ∧ portalFailure 1 p.portals.b p.curves.b = none)
      ∧ (∀ i r, p.zones[i]? = some r → zoneFailure i r = none)
      ∧ ∀ i r, p.channels[i]? = some r → channelFailure p i r = none := by
  rw [← findSome?_zipIdx_eq_none, ← findSome?_zipIdx_eq_none, valid, firstFailure]
  simp [and_assoc]

/-! ### The search as a list (R63) -/

/-- The first member that is marked. -/
def firstMarked {α : Type} (l : List (α × Bool)) : Option α := (l.find? Prod.snd).map Prod.fst

@[simp] theorem firstMarked_nil {α : Type} : firstMarked ([] : List (α × Bool)) = none := rfl

@[simp] theorem firstMarked_cons {α : Type} (x : α) (b : Bool) (l : List (α × Bool)) :
    firstMarked ((x, b) :: l) = if b then some x else firstMarked l := by
  cases b <;> simp [firstMarked]

theorem firstMarked_append {α : Type} (l m : List (α × Bool)) :
    firstMarked (l ++ m) = (firstMarked l <|> firstMarked m) := by
  induction l with
  | nil => simp
  | cons x l ih =>
    obtain ⟨y, b⟩ := x
    cases b <;> simp [ih]

theorem firstMarked_flatMap {α β : Type} (f : β → List (α × Bool)) (l : List β) :
    firstMarked (l.flatMap f) = l.findSome? fun x => firstMarked (f x) := by
  induction l with
  | nil => rfl
  | cons x l ih =>
    rw [List.flatMap_cons, firstMarked_append, ih, List.findSome?_cons]
    cases firstMarked (f x) <;> rfl

theorem firstMarked_curve (n : Nat) (c : List Breakpoint) :
    firstMarked ((c.zip c.tail).flatMap fun pair =>
      [((⟨2, n, 2⟩ : PlanFailure), decide (pair.2.lum ≤ pair.1.lum)),
        (⟨2, n, 3⟩, decide (pair.2.demand < pair.1.demand))]) =
      (curveFailure c).map fun reason => ⟨2, n, reason⟩ := by
  induction c with
  | nil => rfl
  | cons p rest ih =>
    cases rest with
    | nil => rfl
    | cons q rest =>
      rw [List.tail_cons, List.zip_cons_cons, List.flatMap_cons, firstMarked_append, curveFailure]
      rw [List.tail_cons] at ih
      rw [ih]
      by_cases hlum : q.lum ≤ p.lum
      · simp [hlum]
      · by_cases hdemand : q.demand < p.demand
        · simp [hlum, hdemand]
        · simp [hlum, hdemand]

theorem firstMarked_portal (n : Nat) (r : PortalRecord) (c : List Breakpoint) :
    firstMarked (((⟨1, n, 1⟩ : PlanFailure), decide (r.mode = .localOnly ∧ r.constS = 0))
        :: (c.zip c.tail).flatMap fun pair =>
          [(⟨2, n, 2⟩, decide (pair.2.lum ≤ pair.1.lum)), (⟨2, n, 3⟩, decide (pair.2.demand < pair.1.demand))]) =
      portalFailure n r c := by
  rw [firstMarked_cons, firstMarked_curve, portalFailure]
  simp only [decide_eq_true_eq]
  cases curveFailure c <;> rfl

theorem firstMarked_zone (z : Nat) (r : ZoneRecord) :
    firstMarked [((⟨3, z, 4⟩ : PlanFailure),
        decide ((r.kind = .threshold ∨ r.kind = .transition ∨ r.kind = .exit) ∧ r.portal = none)),
      (⟨3, z, 5⟩, decide ((r.kind = .interior ∨ r.kind = .unused) ∧ r.portal ≠ none)),
      (⟨3, z, 6⟩, decide (r.ceiling < r.floor))] = zoneFailure z r := by
  rw [zoneFailure]
  simp only [firstMarked_cons, firstMarked_nil, decide_eq_true_eq, ← ZoneKind.hasPortal_iff,
    ← ZoneKind.hasPortal_false_iff]
  cases r.kind.hasPortal <;> cases r.portal <;> simp

theorem firstMarked_channel (p : Plan) (c : Nat) (r : ChannelRecord) :
    firstMarked [((⟨4, c, 7⟩ : PlanFailure), decide (r.zone.map (fun z => (p.zone z).kind) = some .unused)),
      (⟨4, c, 8⟩, decide (r.hi ≤ r.lo))] = channelFailure p c r := by
  rw [channelFailure]
  simp only [firstMarked_cons, firstMarked_nil, decide_eq_true_eq, ← ChannelRecord.bindsUnused_iff]

/-- Settles O21: each section's failure is none exactly when its conditions hold, and is the first marked of its list. -/
theorem validationFindsEveryFailure : Obligations.ValidationFindsEveryFailure := by
  unfold Obligations.ValidationFindsEveryFailure
  refine ⟨fun p => ?_, fun p portal zones channels hportal hzones hchannels => ?_⟩
  · rw [Plan.valid_iff, forall_portal, forall_portal]
    simp only [portalFailure_eq_none, zoneFailure_eq_none, channelFailure_eq_none, forall_getElem?_iff]
    exact ⟨fun ⟨⟨⟨hlocala, hcurvea⟩, hlocalb, hcurveb⟩, hrest⟩ => ⟨⟨hlocala, hlocalb⟩, ⟨hcurvea, hcurveb⟩, hrest⟩,
      fun ⟨⟨hlocala, hlocalb⟩, ⟨hcurvea, hcurveb⟩, hrest⟩ => ⟨⟨⟨hlocala, hcurvea⟩, hlocalb, hcurveb⟩, hrest⟩⟩
  · show p.firstFailure = firstMarked (portal .a 0 ++ portal .b 1 ++ zones ++ channels)
    rw [hportal, hportal, hzones, hchannels]
    simp only [firstMarked_append, firstMarked_flatMap, firstMarked_portal, firstMarked_zone, firstMarked_channel]
    simp only [Plan.firstFailure, Option.orElse_eq_orElse, Option.orElse_eq_or, Option.or_assoc]
    rfl

/-! ### Adoption (R64 to R67) -/

theorem Photometer.adopt_of_off {r : PortalRecord} (m : Photometer) (h : r.photometerOff = true) :
    m.adopt r =
      { m with
        state := .off, interval := none, msPhase := 0, edgeWindow := 0, captureCount := 0, edgeCount := 0,
        timeouts := 0, health := .ok } := if_pos h

theorem Photometer.adopt_of_start {r : PortalRecord} {m : Photometer} (h : r.photometerOff = false) (hst : m.state = .off) :
    m.adopt r =
      { m with state := .waiting, interval := some (1000 * r.interval), msPhase := 0, timeouts := 0, health := .ok } := by
  rw [adopt, if_neg (by simp [h]), if_pos hst]

theorem Photometer.adopt_of_on {r : PortalRecord} {m : Photometer} (h : r.photometerOff = false) (hst : m.state ≠ .off) :
    m.adopt r = m := by
  rw [adopt, if_neg (by simp [h]), if_neg hst]

theorem ZoneLevel.adopt_eq (old new : ZoneRecord) (x : ZoneLevel) :
    x.adopt old new = { x with seeding := x.seeding || decide (old.kind ≠ new.kind ∨ old.portal ≠ new.portal) } := by
  unfold adopt
  by_cases h : old.kind = new.kind ∧ old.portal = new.portal
  · simp [h]
  · rw [if_neg h]
    have hdiffers : old.kind ≠ new.kind ∨ old.portal ≠ new.portal := by
      by_contra hsame
      exact h (by simpa using hsame)
    simp [hdiffers]

/-- ADOPT of a valid draft. -/
theorem exec_adopt {s : State} (h : s.Reached .s) (hvalid : s.plans.draft.valid = true) :
    exec (.adopt .s false []) s = .next ((s.addressed .s false).adoptDraft.answered .s 0x34 (.plain .done)) := by
  refine exec_reached .adopt h (by simp) rfl ?_
  have hnone : s.plans.draft.firstFailure = none := by simpa [Plan.valid] using hvalid
  simp only [ownerTakes, takeAdopt, if_true, State.addressed_plans, hnone]

/-- ADOPT of a draft that fails validation. -/
theorem exec_adopt_refused {s : State} {f : PlanFailure} (h : s.Reached .s) (hf : s.plans.draft.firstFailure = some f) :
    exec (.adopt .s false []) s =
      .next ((s.addressed .s false).answered .s 0x34
        ⟨.planInvalid, [u8 f.sectionCode, u8 f.record, u8 f.reason]⟩) := by
  refine exec_reached .adopt h (by simp) rfl ?_
  simp only [ownerTakes, takeAdopt, if_true, State.addressed_plans, hf]

theorem Plan.exists_failure {p : Plan} (h : p.valid = false) : ∃ f, p.firstFailure = some f := by
  rw [← Option.isSome_iff_exists, ← Option.not_isNone, ← Plan.valid, h]
  rfl

/-- Settles O22: the adoption block by block; the refusal by the first failure. -/
theorem adoptInstallsExactlyValidDrafts : Obligations.AdoptInstallsExactlyValidDrafts := by
  unfold Obligations.AdoptInstallsExactlyValidDrafts
  refine fun s h => ⟨fun hvalid => ?_, fun hinvalid => ?_⟩
  · refine ⟨_, _, _, exec_adopt h hvalid, forall_portal.2 ⟨fun hoff => ?_, fun hoff => ?_⟩,
      forall_portal.2 ⟨fun hon hst => ?_, fun hon hst => ?_⟩,
      forall_portal.2 ⟨fun hon hst => Photometer.adopt_of_on hon hst, fun hon hst => Photometer.adopt_of_on hon hst⟩,
      fun z old new x hold hnew hx => ?_, fun c old new f hold hnew hf => ?_⟩
    · exact Photometer.adopt_of_off s.photometers.a hoff ▸ ⟨rfl, rfl, rfl, rfl⟩
    · exact Photometer.adopt_of_off s.photometers.b hoff ▸ ⟨rfl, rfl, rfl, rfl⟩
    · exact Photometer.adopt_of_start hon hst ▸ ⟨rfl, rfl, rfl, rfl⟩
    · exact Photometer.adopt_of_start hon hst ▸ ⟨rfl, rfl, rfl, rfl⟩
    · rw [← ZoneLevel.adopt_eq]
      exact List.getElem?_zipWith_eq_some.2 ⟨(old, new), x, List.getElem?_zip_eq_some.2 ⟨hold, hnew⟩, hx, rfl⟩
    · exact List.getElem?_zipWith_eq_some.2 ⟨(old, new), f, List.getElem?_zip_eq_some.2 ⟨hold, hnew⟩, hf, rfl⟩
  · obtain ⟨f, hf⟩ := Plan.exists_failure hinvalid
    exact ⟨f, hf, exec_adopt_refused h hf⟩

end Sys2Proof.Machine
end

section
/-! PROOFS. The photometers (02_local_photometer_capture) and the arrival of their figures. -/

namespace Sys2Proof.Machine

/-! ### The interval timer (R28, R29) -/

theorem Photometer.intervalExpiry_of_off {m : Photometer} (r : PortalRecord) (h : m.state = .off) :
    m.intervalExpiry r = m := by
  simp only [intervalExpiry, h]

theorem Photometer.intervalExpiry_of_waiting {m : Photometer} (r : PortalRecord) (h : m.state = .waiting) :
    m.intervalExpiry r =
      { m with
        interval := some (1000 * r.interval), msPhase := 0, state := .armed, constS := r.constS, constN := r.constN,
        edgeWindow := 0, captureCount := 0, edgeCount := 0, sinceEdge := min 2 (m.sinceEdge + m.clocksToExpiry) } := by
  simp only [intervalExpiry, h]
  rfl

theorem Photometer.intervalExpiry_of_busy {m : Photometer} (r : PortalRecord) (h : m.state = .armed ∨ m.state = .counting) :
    m.intervalExpiry r = { m with interval := some (1000 * r.interval), msPhase := 0 } := by
  rcases h with h | h <;> simp only [intervalExpiry, h]

theorem exec_intervalTimerExpiry {s : State} (h : s.started = true) (p : Portal) :
    exec (.intervalTimerExpiry p) s =
      .next (s.setPhotometer p ((s.photometers.get p).intervalExpiry (s.plans.running.portals.get p))) :=
  congrArg Host.Outcome.next (if_pos h)

/-- Settles O13: the expiry in each measurement state. -/
theorem intervalExpiryArmsAWaitingPhotometer : Obligations.IntervalExpiryArmsAWaitingPhotometer := by
  unfold Obligations.IntervalExpiryArmsAWaitingPhotometer
  intro p s hs
  refine ⟨_, exec_intervalTimerExpiry hs p, ?_⟩
  generalize s.photometers.get p = m
  generalize s.plans.running.portals.get p = r
  cases hst : m.state with
  | off => simp [Photometer.intervalExpiry_of_off r hst]
  | waiting => simp [Photometer.intervalExpiry_of_waiting r hst]
  | armed => simp [Photometer.intervalExpiry_of_busy r (.inl hst)]
  | counting => simp [Photometer.intervalExpiry_of_busy r (.inr hst)]

/-! ### Edges (R30 to R34, R36) -/

/-- A detected edge in OFF or WAITING. -/
theorem Photometer.edge_of_idle {m : Photometer} {k : Nat} (hdetected : 2 ≤ m.sinceEdge + k)
    (h : m.state = .off ∨ m.state = .waiting) : m.edge k = ({ m with sinceEdge := 0 }, none) := by
  rcases h with h | h <;> simp [edge, h, hdetected]

/-- In OFF an edge, detected or not, leaves the measurement and hands over nothing. -/
theorem Photometer.edge_of_off {m : Photometer} (k : Nat) (h : m.state = .off) :
    m.edge k = ({ m with sinceEdge := (m.edge k).1.sinceEdge }, none) := by
  simp only [edge, h]

theorem Photometer.edge_of_armed {m : Photometer} {k : Nat} (hdetected : 2 ≤ m.sinceEdge + k) (h : m.state = .armed)
    (hwindow : m.edgeWindow + k ≤ 65536) :
    m.edge k =
      ({ m with sinceEdge := 0, state := .counting, edgeWindow := 0, captureCount := 0, edgeCount := 0 }, none) := by
  simp [edge, h, hdetected, Config.captureLimit, hwindow]

theorem Photometer.edge_of_armed_late {m : Photometer} {k : Nat} (hdetected : 2 ≤ m.sinceEdge + k) (h : m.state = .armed)
    (hwindow : 65536 < m.edgeWindow + k) : m.edge k = (({ m with sinceEdge := 0 } : Photometer).timeOut, none) := by
  simp [edge, h, hdetected, Config.captureLimit, Nat.not_le.2 hwindow, Nat.not_lt.2 hwindow.le]

theorem Photometer.edge_of_counting_late {m : Photometer} {k : Nat} (hdetected : 2 ≤ m.sinceEdge + k)
    (h : m.state = .counting) (hcount : 65536 ≤ m.captureCount + k) :
    m.edge k = (({ m with sinceEdge := 0 } : Photometer).timeOut, none) := by
  simp [edge, h, hdetected, Config.captureLimit, hcount]

theorem Photometer.edge_of_counting {m : Photometer} {k : Nat} (hdetected : 2 ≤ m.sinceEdge + k) (h : m.state = .counting)
    (hcount : m.captureCount + k ≤ 65535) (hn : m.edgeCount + 1 < m.constN) :
    m.edge k =
      ({ m with sinceEdge := 0, captureCount := m.captureCount + k, edgeCount := m.edgeCount + 1 }, none) := by
  simp [edge, h, hdetected, Config.captureLimit, Nat.not_le.2 (Nat.lt_succ_of_le hcount), Nat.not_le.2 hn]

/-- The photometer and the figure after the n-th edge. -/
theorem Photometer.edge_of_last {m : Photometer} {k : Nat} (hdetected : 2 ≤ m.sinceEdge + k) (h : m.state = .counting)
    (hcount : m.captureCount + k ≤ 65535) (hn : m.constN = m.edgeCount + 1) :
    m.edge k =
      (({ m with sinceEdge := 0 } : Photometer).complete,
        some (min 9999 (m.constS * m.constN / (m.captureCount + k)))) := by
  simp [edge, h, hdetected, Config.captureLimit, Nat.not_le.2 (Nat.lt_succ_of_le hcount), hn.le, convert]

theorem exec_phinRisingEdge {s : State} (h : s.started = true) (p : Portal) (k : Nat) :
    exec (.phinRisingEdge p k) s =
      .next ((s.setPhotometer p ((s.photometers.get p).edge k).1).handOverFigure p
        ((s.planAtArrival p).portals.get p).mode ((s.photometers.get p).edge k).2) := congrArg Host.Outcome.next (if_pos h)

/-- An edge that completes nothing. -/
theorem exec_edge_quiet {s : State} {p : Portal} {k : Nat} {m : Photometer} (h : s.started = true)
    (hedge : (s.photometers.get p).edge k = (m, none)) : exec (.phinRisingEdge p k) s = .next (s.setPhotometer p m) := by
  rw [exec_phinRisingEdge h, hedge]
  rfl

/-- The edge that completes a measurement. -/
theorem exec_edge_figure {s : State} {p : Portal} {k lum : Nat} {m : Photometer} (h : s.started = true)
    (hedge : (s.photometers.get p).edge k = (m, some lum)) :
    exec (.phinRisingEdge p k) s =
      .next ((s.setPhotometer p m).setPortal p
        ((s.portals.get p).localSample ((s.planAtArrival p).portals.get p).mode lum)) := by
  rw [exec_phinRisingEdge h, hedge]
  rfl

/-- Settles O14: the edge in ARMED, in OFF or WAITING, and in COUNTING before the n-th. -/
theorem edgesStartAndRaiseTheCount : Obligations.EdgesStartAndRaiseTheCount := by
  unfold Obligations.EdgesStartAndRaiseTheCount
  intro p k s hs hdetected
  exact ⟨fun h hwindow => exec_edge_quiet hs (Photometer.edge_of_armed hdetected h hwindow),
    fun h => exec_edge_quiet hs (Photometer.edge_of_idle hdetected h),
    fun h hcount hn => exec_edge_quiet hs (Photometer.edge_of_counting hdetected h hcount hn)⟩

/-! ### Timeouts (R31, R33, R35, R37) -/

theorem Photometer.timeOut_eq {m : Photometer} (h : m.timeouts ≤ 4) :
    m.timeOut =
      { m with
        state := .waiting, edgeWindow := 0, captureCount := 0, edgeCount := 0
        timeouts := if m.timeouts = 4 then 4 else m.timeouts + 1
        health := if 3 ≤ m.timeouts then .lost else m.health } := by
  have hcount : min 4 (m.timeouts + 1) = if m.timeouts = 4 then 4 else m.timeouts + 1 := by
    split_ifs <;> omega
  have hlost : 4 ≤ m.timeouts + 1 ↔ 3 ≤ m.timeouts := Nat.succ_le_succ_iff
  simp only [timeOut, hcount, hlost]

theorem exec_firstEdgeTimeout {s : State} (h : s.started = true) (p : Portal) :
    exec (.firstEdgeTimeout p) s = .next (s.setPhotometer p
      (if (s.photometers.get p).state = .armed then
        ((s.photometers.get p).passClocks (65536 - (s.photometers.get p).edgeWindow)).timeOut
      else s.photometers.get p)) := by
  simp only [exec, execFirstEdgeTimeout, h, Bool.true_and, beq_iff_eq, Config.captureLimit]
  split
  · rfl
  · rw [State.setPhotometer_self]

theorem exec_countOverflowTimeout {s : State} (h : s.started = true) (p : Portal) :
    exec (.countOverflowTimeout p) s = .next (s.setPhotometer p
      (if (s.photometers.get p).state = .counting then
        ((s.photometers.get p).passClocks (65536 - (s.photometers.get p).captureCount)).timeOut
      else s.photometers.get p)) := by
  simp only [exec, execCountOverflowTimeout, h, Bool.true_and, beq_iff_eq, Config.captureLimit]
  split
  · rfl
  · rw [State.setPhotometer_self]

/-- Settles O16: each timeout in its state and in the others, and the edge past each limit. -/
theorem timeoutsCountTowardsLost : Obligations.TimeoutsCountTowardsLost := by
  unfold Obligations.TimeoutsCountTowardsLost
  intro p k s hs htimeouts
  refine ⟨_, rfl, fun h => ?_, fun h => ?_, fun h => ?_, fun h => ?_, fun h hwindow hdetected => ?_,
    fun h hcount hdetected => ?_⟩
  · rw [exec_firstEdgeTimeout hs, if_pos h, Photometer.timeOut_eq (by exact htimeouts)]
    rfl
  · rw [exec_firstEdgeTimeout hs, if_neg h, State.setPhotometer_self]
  · rw [exec_countOverflowTimeout hs, if_pos h, Photometer.timeOut_eq (by exact htimeouts)]
    rfl
  · rw [exec_countOverflowTimeout hs, if_neg h, State.setPhotometer_self]
  · rw [exec_edge_quiet hs (Photometer.edge_of_armed_late hdetected h hwindow), Photometer.timeOut_eq (by exact htimeouts)]
  · rw [exec_edge_quiet hs (Photometer.edge_of_counting_late hdetected h hcount),
      Photometer.timeOut_eq (by exact htimeouts)]

/-! ### The plan that gives the mode (R42, R67) -/

/-- A request changes the running plan by an adoption of the draft alone. -/
theorem ownerTakes_running (k : Kind) (l : Line) (fields : List Byte) (s : State) :
    (ownerTakes k l fields s).1.plans.running = s.plans.running
      ∨ (ownerTakes k l fields s).1.plans.running = s.plans.draft := by
  cases k with
  | adopt =>
    simp only [ownerTakes, takeAdopt]
    split
    · split
      · exact .inr rfl
      · exact .inl rfl
    · exact .inl rfl
  | _ =>
    left
    simp only [ownerTakes, takeReport, takeReadPortals, takeReadZones, takeReadChannels, takeReadClaims, takeReadPart,
      takeClaim, takeRelease, takeWithdraw, takeSetDirection, takeClearFire, takeClearTrip, takeAckEvents,
      takeClearFaults, takeClearCounts, takePlanRead, takeDraftLoad, takeDraftPut, takeSave, State.takeAway]
    repeat' split
    all_goals rfl

theorem handOver_running (s : State) (l : Line) (bc : Bool) (body : List Byte) :
    (s.handOver l bc body).plans.running = s.plans.running ∨ (s.handOver l bc body).plans.running = s.plans.draft := by
  cases body with
  | nil => exact .inl rfl
  | cons kind fields =>
    cases bc with
    | true =>
      show (dispatchBroadcast l kind fields s).plans.running = _ ∨ (dispatchBroadcast l kind fields s).plans.running = _
      unfold dispatchBroadcast
      split
      · exact ownerTakes_running .setDirection l fields s
      · split
        · exact .inl rfl
        · exact ownerTakes_running .report l fields s
      · exact .inl rfl
    | false =>
      show (dispatch l kind fields s).1.plans.running = _ ∨ (dispatch l kind fields s).1.plans.running = _
      unfold dispatch
      split
      · exact .inl rfl
      · split
        · exact ownerTakes_running _ l fields s
        · exact .inl rfl

theorem request_running (s : State) (l : Line) (bc : Bool) (body : List Byte) :
    (s.request l bc body).plans.running = s.plans.running ∨ (s.request l bc body).plans.running = s.plans.draft := by
  unfold State.request State.frameRest
  split
  · exact .inl rfl
  · split
    · exact .inl rfl
    · split
      · exact .inl rfl
      · exact handOver_running (s.addressed l bc) l bc body

theorem dataChar_running (s : State) (l : Line) (v : Byte) :
    (s.dataChar l v).plans.running = s.plans.running ∨ (s.dataChar l v).plans.running = s.plans.draft := by
  unfold State.dataChar
  split
  · exact .inl rfl
  · simp only [State.collectChar]
    split
    · split <;> exact .inl rfl
    · split
      · split
        · exact handOver_running ..
        · exact .inl rfl
      · exact .inl rfl
    · exact .inl rfl
  · exact .inl rfl
  · exact .inl rfl

theorem State.planAfter_cases (s : State) (c : Instr) :
    s.planAfter c = s.plans.running ∨ s.planAfter c = s.plans.draft := by
  unfold planAfter
  split
  · exact request_running ..
  · split
    · exact dataChar_running ..
    · exact .inl rfl
  · exact .inl rfl

/-- Where running plan and draft are one, it is the plan of every arrival. -/
theorem State.planAtArrival_of_same {s : State} (p : Portal) (h : s.plans.draft = s.plans.running) :
    s.planAtArrival p = s.plans.running := by
  unfold planAtArrival
  split
  · rfl
  · rename_i c _ _
    have hafter : s.planAfter c = s.plans.running := by
      rcases s.planAfter_cases c with hc | hc
      · exact hc
      · exact hc.trans h
    rw [hafter, ite_self]

theorem State.planAtArrival_of_empty {s : State} (p : Portal) (h : s.pending = []) :
    s.planAtArrival p = s.plans.running := by
  simp [planAtArrival, h]

/-- No other command that waits next gives the mode. -/
theorem State.planAtArrival_of_other {s : State} {next : Instr} {rest : List Instr} (p : Portal)
    (h : s.pending = next :: rest) (hadopt : ∀ l bc fields, next ≠ .adopt l bc fields)
    (hchar : ∀ l v, next ≠ .dataCharacter l v) (hedge : ∀ q j, next ≠ .phinRisingEdge q j) :
    s.planAtArrival p = s.plans.running := by
  have hother : isOtherEdge p next = false := by
    unfold isOtherEdge
    split
    · exact absurd rfl (hedge _ _)
    · rfl
  have hafter : s.planAfter next = s.plans.running := by
    unfold planAfter
    split
    · exact absurd rfl (hadopt _ _ _)
    · exact absurd rfl (hchar _ _)
    · rfl
  simp [planAtArrival, h, hother, hafter]

theorem State.planAfter_adopt {s : State} (h : s.Reached .s) :
    s.planAfter (.adopt .s false []) = if s.plans.draft.valid = true then s.plans.draft else s.plans.running := by
  have hexec : exec (.adopt .s false []) s = .next (s.request .s false [Kind.adopt.code]) := rfl
  have hafter : s.planAfter (.adopt .s false []) = (s.request .s false [Kind.adopt.code]).plans.running := rfl
  by_cases hvalid : s.plans.draft.valid = true
  · rw [if_pos hvalid, hafter, Host.Outcome.next.inj (hexec.symm.trans (exec_adopt h hvalid))]
    rfl
  · obtain ⟨f, hf⟩ := Plan.exists_failure (Bool.eq_false_iff.2 hvalid)
    rw [if_neg hvalid, hafter, Host.Outcome.next.inj (hexec.symm.trans (exec_adopt_refused h hf))]
    rfl

/-- An adoption to OFF that waits next gives the mode. -/
theorem State.planAtArrival_of_adopt {s : State} {rest : List Instr} (p : Portal) (h : s.Reached .s)
    (hqueue : s.pending = .adopt .s false [] :: rest) :
    s.planAtArrival p =
      if s.plans.draft.valid = true ∧ (s.plans.draft.portals.get p).photometerOff = true then s.plans.draft
      else s.plans.running := by
  have harrival : s.planAtArrival p =
      if ((s.planAfter (.adopt .s false [])).portals.get p).photometerOff then s.planAfter (.adopt .s false [])
      else s.plans.running := by
    simp [planAtArrival, hqueue, isOtherEdge]
  rw [harrival, planAfter_adopt h]
  by_cases hvalid : s.plans.draft.valid = true
  · simp [hvalid]
  · simp [hvalid]

/-! ### The n-th edge (R10, R36) -/

theorem PortalUnit.takesLocal_iff {u : PortalUnit} {mode : SourceMode} :
    u.takesLocal mode = true ↔ mode = .localOnly ∨ (mode = .stationFallback ∧ u.mark = none) := by
  cases mode <;> simp [takesLocal]

theorem PortalUnit.takesLocal_false_iff {u : PortalUnit} {mode : SourceMode} :
    u.takesLocal mode = false ↔ mode = .station ∨ (mode = .stationFallback ∧ u.mark ≠ none) := by
  cases mode <;> simp [takesLocal, Option.isSome_iff_ne_none]

/-- A local sample that is entered. -/
theorem PortalUnit.localSample_entered {u : PortalUnit} {mode : SourceMode} (lum : Nat) (hlen : u.window.length ≤ 8)
    (h : mode = .localOnly ∨ (mode = .stationFallback ∧ u.mark = none)) :
    (u.localSample mode lum).window =
        (if u.window.length < 8 then u.window else u.window.tail) ++ [⟨lum, .photometer, .good, u.timeBase⟩]
      ∧ (u.localSample mode lum).state = .live ∧ (u.localSample mode lum).holdTimer = none
      ∧ (u.localSample mode lum).effLum = windowMedian (u.localSample mode lum).window := by
  rcases u.localSample_cases mode lum with ⟨-, he⟩ | ⟨hnot, -⟩
  · rw [he, enter_eq]
    exact ⟨pushSample_eq _ _ hlen, rfl, rfl, rfl⟩
  · exact absurd (takesLocal_iff.2 h) (by simp [hnot])

/-- A local sample that is discarded is the last local sample all the same. -/
theorem PortalUnit.localSample_discarded {u : PortalUnit} {mode : SourceMode} (lum : Nat)
    (h : mode = .station ∨ (mode = .stationFallback ∧ u.mark ≠ none)) :
    u.localSample mode lum = { u with lastLocal := some lum } := by
  rcases u.localSample_cases mode lum with ⟨htakes, -⟩ | ⟨-, he⟩
  · exact absurd htakes (by simp [takesLocal_false_iff.2 h])
  · exact he

theorem PortalUnit.localSample_frame (u : PortalUnit) (mode : SourceMode) (lum : Nat) :
    (u.localSample mode lum).lastLocal = some lum ∧ (u.localSample mode lum).mark = u.mark
      ∧ (u.localSample mode lum).timeBase = u.timeBase := by
  rcases u.localSample_cases mode lum with ⟨-, he⟩ | ⟨-, he⟩ <;> rw [he] <;> exact ⟨rfl, rfl, rfl⟩

/-- Settles O15: the completion by the n-th edge, the sample by the mode, the mode by the command that waits next. -/
theorem nthEdgeHandsOverTheQuotient : Obligations.NthEdgeHandsOverTheQuotient := by
  unfold Obligations.NthEdgeHandsOverTheQuotient
  rintro p k c mode s hs hdetected hst rfl - hcount hn hlen hmode
  have hedge := Photometer.edge_of_last hdetected hst hcount hn
  obtain ⟨hlast, hmark, htime⟩ := (s.portals.get p).localSample_frame mode
    (min 9999 ((s.photometers.get p).constS * (s.photometers.get p).constN / ((s.photometers.get p).captureCount + k)))
  have hexec := exec_edge_figure hs hedge
  rw [← hmode] at hexec
  refine ⟨_, _, hexec, rfl, rfl, rfl, rfl, rfl, hlast, hmark, htime, PortalUnit.localSample_entered _ hlen, fun h => ?_,
    fun hqueue => ?_, fun next rest hqueue hadopt hchar hedge => ?_, fun rest hqueue hreached => ?_⟩
  · rw [PortalUnit.localSample_discarded _ h]
  · rw [hmode, State.planAtArrival_of_empty p hqueue]
  · rw [hmode, State.planAtArrival_of_other p hqueue hadopt hchar hedge]
  · rw [hmode, State.planAtArrival_of_adopt p hreached hqueue]

/-! ### One moment: an adoption and an event of the photometer (R42, R67) -/

theorem run_two {s t u : State} {c d : Instr} {rest : List Instr} (hc : exec c { s with pending := d :: rest } = .next t)
    (hd : exec d { t with pending := rest } = .next u) : core.run 2 { s with pending := c :: d :: rest } = .next u := by
  obtain ⟨v, hrun, hv⟩ := exists_run_succ (P := fun v => v = u) (k := 1) (s := { s with pending := c :: d :: rest }) rfl hc
    (exists_run_succ (k := 0) (exec_pending hc) hd ⟨u, rfl, rfl⟩)
  exact hv ▸ hrun

/-- What an adoption of the draft of `s` leaves for the photometers and the portal units. -/
structure Adopted (s t : State) : Prop where
  running : t.plans.running = s.plans.draft
  draft : t.plans.draft = s.plans.draft
  started : t.started = s.started
  portals : t.portals = s.portals
  photometer : ∀ p, t.photometers.get p = (s.photometers.get p).adopt (s.plans.draft.portals.get p)

theorem exists_adopted {s : State} (h : s.Reached .s) (hvalid : s.plans.draft.valid = true) :
    ∃ t, exec (.adopt .s false []) s = .next t ∧ Adopted s t :=
  ⟨_, exec_adopt h hvalid, rfl, rfl, rfl, rfl, forall_portal.2 ⟨rfl, rfl⟩⟩

/-- An event of the photometer, then the adoption. -/
theorem run_event_adopt {s : State} {p : Portal} {event : Instr} {rest : List Instr} {m : Photometer} {u : PortalUnit}
    (h : s.Reached .s) (hvalid : s.plans.draft.valid = true)
    (hevent : exec event { s with pending := .adopt .s false [] :: rest } =
      .next ((({ s with pending := .adopt .s false [] :: rest } : State).setPhotometer p m).setPortal p u)) :
    ∃ t, core.run 2 { s with pending := event :: .adopt .s false [] :: rest } = .next t
      ∧ t.plans.running = s.plans.draft ∧ t.photometers.get p = m.adopt (s.plans.draft.portals.get p)
      ∧ t.portals.get p = u := by
  obtain ⟨t, hadopt, hadopted⟩ := exists_adopted (s := { ((({ s with pending := .adopt .s false [] :: rest } :
    State).setPhotometer p m).setPortal p u) with pending := rest }) h hvalid
  refine ⟨t, run_two hevent hadopt, hadopted.running, ?_, ?_⟩
  · rw [hadopted.photometer]
    simp
  · rw [hadopted.portals]
    simp

/-- The adoption, then an event of the photometer at the state it leaves. -/
theorem run_adopt_event {s : State} {p : Portal} {event : Instr} {rest : List Instr}
    {Q : Photometer → PortalUnit → Prop} (h : s.Reached .s) (hvalid : s.plans.draft.valid = true)
    (hevent : ∀ t, t.started = true → t.plans.running = s.plans.draft → t.plans.draft = s.plans.draft →
      t.portals = s.portals → t.photometers.get p = (s.photometers.get p).adopt (s.plans.draft.portals.get p) →
      ∃ m u, exec event t = .next ((t.setPhotometer p m).setPortal p u) ∧ Q m u) :
    ∃ t, core.run 2 { s with pending := .adopt .s false [] :: event :: rest } = .next t
      ∧ t.plans.running = s.plans.draft ∧ Q (t.photometers.get p) (t.portals.get p) := by
  obtain ⟨t, hadopt, hadopted⟩ := exists_adopted (s := { s with pending := event :: rest }) h hvalid
  obtain ⟨m, u, hexec, hQ⟩ := hevent { t with pending := rest } (hadopted.started.trans h.1.1) hadopted.running
    hadopted.draft hadopted.portals (hadopted.photometer p)
  refine ⟨_, run_two hadopt hexec, hadopted.running, ?_⟩
  simpa using hQ

/-- An event that leaves the portal unit. -/
theorem next_setPortal_same {s t : State} {p : Portal} {m : Photometer} (h : t = s.setPhotometer p m) :
    (.next t : Host.Outcome State Fault Refusal) = .next ((s.setPhotometer p m).setPortal p (s.portals.get p)) := by
  rw [h]
  exact congrArg _ (State.setPortal_self (s.setPhotometer p m) p).symm

/-- What a commanded timeout does to the state: its photometer alone. -/
theorem exec_timeout {p : Portal} {timeout : Instr} (h : timeout = .firstEdgeTimeout p ∨ timeout = .countOverflowTimeout p)
    {s : State} (hs : s.started = true) :
    ∃ m, exec timeout s = .next ((s.setPhotometer p m).setPortal p (s.portals.get p))
      ∧ ((s.photometers.get p).state = .off → m = s.photometers.get p) := by
  rcases h with rfl | rfl
  · refine ⟨_, (exec_firstEdgeTimeout hs p).trans (next_setPortal_same rfl), fun hoff => if_neg (by simp [hoff])⟩
  · refine ⟨_, (exec_countOverflowTimeout hs p).trans (next_setPortal_same rfl), fun hoff => if_neg (by simp [hoff])⟩

/-- An edge that hands over no figure, or one. -/
theorem exec_edge {s : State} (hs : s.started = true) (p : Portal) (k : Nat) :
    ∃ u, exec (.phinRisingEdge p k) s = .next ((s.setPhotometer p ((s.photometers.get p).edge k).1).setPortal p u) := by
  rcases hedge : (s.photometers.get p).edge k with ⟨m, _ | lum⟩
  · exact ⟨_, (exec_edge_quiet hs hedge).trans (next_setPortal_same rfl)⟩
  · exact ⟨_, exec_edge_figure hs hedge⟩

/-- In a valid plan a photometer that is off is not of a LOCAL portal. -/
theorem Plan.mode_of_photometerOff {d : Plan} {p : Portal} (hvalid : d.valid = true)
    (hoff : (d.portals.get p).photometerOff = true) : (d.portals.get p).mode ≠ .localOnly := by
  intro hlocal
  have hconst : (d.portals.get p).constS ≠ 0 := by
    obtain ⟨⟨ha, hb⟩, -⟩ := d.valid_iff.1 hvalid
    cases p
    · exact (portalFailure_eq_none.1 ha).1 hlocal
    · exact (portalFailure_eq_none.1 hb).1 hlocal
  simp [PortalRecord.photometerOff, hlocal, hconst] at hoff

/-! ### An adoption at the moment of a photometer's event -/

theorem State.planAtArrival_before_adopt (p : Portal) {s : State} (rest : List Instr) (h : s.Reached .s) :
    State.planAtArrival { s with pending := .adopt .s false [] :: rest } p =
      if s.plans.draft.valid = true ∧ (s.plans.draft.portals.get p).photometerOff = true then s.plans.draft
      else s.plans.running :=
  State.planAtArrival_of_adopt (s := { s with pending := .adopt .s false [] :: rest }) p h rfl

section
variable {p : Portal} {s : State} (rest : List Instr) (h : s.Reached .s) (hvalid : s.plans.draft.valid = true)
include h hvalid

/-- An adoption to OFF before an edge: the edge hands over no figure. -/
theorem run_adopt_edge_of_off (k : Nat) :
    ∃ t, core.run 2 { s with pending := .adopt .s false [] :: .phinRisingEdge p k :: rest } = .next t
      ∧ ((s.plans.draft.portals.get p).photometerOff = true →
        t.portals.get p = s.portals.get p ∧ (t.photometers.get p).state = .off
          ∧ (t.photometers.get p).timeouts = 0 ∧ (t.photometers.get p).health = .ok) := by
  obtain ⟨t, hrun, -, hQ⟩ := run_adopt_event (p := p) (event := .phinRisingEdge p k) (rest := rest)
    (Q := fun m u => (s.plans.draft.portals.get p).photometerOff = true →
      u = s.portals.get p ∧ m.state = .off ∧ m.timeouts = 0 ∧ m.health = .ok) h hvalid
    fun t hst hrunning hdraft hportals hphotometer => by
    cases hoff : (s.plans.draft.portals.get p).photometerOff with
    | false =>
      obtain ⟨u, hexec⟩ := exec_edge hst p k
      exact ⟨_, u, hexec, fun h => absurd h (by simp)⟩
    | true =>
      rw [Photometer.adopt_of_off _ hoff] at hphotometer
      have hedge := Photometer.edge_of_off (m := t.photometers.get p) k (by rw [hphotometer])
      refine ⟨_, _, (exec_edge_quiet hst hedge).trans (next_setPortal_same rfl), fun _ => ⟨by rw [hportals], ?_⟩⟩
      rw [hphotometer]
      exact ⟨rfl, rfl, rfl⟩
  exact ⟨t, hrun, hQ⟩

/-- An adoption that keeps the photometer on and a completion: the mode is that of the plan the edge finds. -/
theorem run_completion_of_on {k : Nat} {both : List Instr} {mode : SourceMode}
    (hboth : (both = [.phinRisingEdge p k, .adopt .s false []] ∧ mode = (s.plans.running.portals.get p).mode)
      ∨ (both = [.adopt .s false [], .phinRisingEdge p k] ∧ mode = (s.plans.draft.portals.get p).mode))
    (hon : (s.plans.draft.portals.get p).photometerOff = false) (hdetected : 2 ≤ (s.photometers.get p).sinceEdge + k)
    (hst : (s.photometers.get p).state = .counting) (hcount : (s.photometers.get p).captureCount + k ≤ 65535)
    (hn : (s.photometers.get p).constN = (s.photometers.get p).edgeCount + 1) :
    ∃ t : State, core.run 2 { s with pending := both ++ rest } = .next t
      ∧ t.plans.running = s.plans.draft ∧ (t.photometers.get p).state = .waiting
      ∧ (t.photometers.get p).interval = (s.photometers.get p).interval
      ∧ t.portals.get p = (s.portals.get p).localSample mode
        (min 9999 ((s.photometers.get p).constS * (s.photometers.get p).constN /
          ((s.photometers.get p).captureCount + k))) := by
  have hedge := Photometer.edge_of_last hdetected hst hcount hn
  have hkeeps : ∀ m : Photometer, m.state ≠ .off → m.adopt (s.plans.draft.portals.get p) = m :=
    fun m => Photometer.adopt_of_on hon
  rcases hboth with ⟨rfl, rfl⟩ | ⟨rfl, rfl⟩
  · have hfigure := exec_edge_figure (s := { s with pending := .adopt .s false [] :: rest }) h.1.1 hedge
    rw [State.planAtArrival_before_adopt p rest h, if_neg (by simp [hon])] at hfigure
    obtain ⟨t, hrun, hrunning, hphotometer, hportal⟩ := run_event_adopt h hvalid hfigure
    rw [hkeeps _ (by simp [Photometer.complete])] at hphotometer
    exact ⟨t, hrun, hrunning, by rw [hphotometer]; rfl, by rw [hphotometer]; rfl, hportal⟩
  · refine run_adopt_event (p := p) (event := .phinRisingEdge p k) (rest := rest)
      (Q := fun m u => m.state = .waiting ∧ m.interval = (s.photometers.get p).interval
        ∧ u = (s.portals.get p).localSample _ _) h hvalid fun t hst' hrunning hdraft hportals hphotometer => ?_
    rw [hkeeps _ (by simp [hst])] at hphotometer
    rw [← hphotometer] at hedge
    have hfigure := exec_edge_figure hst' hedge
    rw [State.planAtArrival_of_same p (hdraft.trans hrunning.symm), hrunning, hportals] at hfigure
    exact ⟨_, _, hfigure, rfl, by rw [← hphotometer]; rfl, by rw [hphotometer]⟩

/-- An adoption to OFF and a timeout, in both orders. -/
theorem run_timeout_of_off : ∀ timeout, timeout = Instr.firstEdgeTimeout p ∨ timeout = Instr.countOverflowTimeout p →
    ∀ both, both = [timeout, .adopt .s false []] ∨ both = [.adopt .s false [], timeout] →
      (s.plans.draft.portals.get p).photometerOff = true →
      ∃ t, core.run 2 { s with pending := both ++ rest } = .next t
        ∧ (t.photometers.get p).state = .off ∧ (t.photometers.get p).timeouts = 0
        ∧ (t.photometers.get p).health = .ok ∧ t.portals.get p = s.portals.get p := by
  rintro timeout htimeout both (rfl | rfl) hoff
  · obtain ⟨m, hexec, -⟩ := exec_timeout htimeout (s := { s with pending := .adopt .s false [] :: rest }) h.1.1
    obtain ⟨t, hrun, -, hphotometer, hportal⟩ := run_event_adopt h hvalid hexec
    rw [Photometer.adopt_of_off _ hoff] at hphotometer
    exact ⟨t, hrun, by rw [hphotometer], by rw [hphotometer], by rw [hphotometer], hportal⟩
  · obtain ⟨t, hrun, -, hQ⟩ := run_adopt_event (p := p) (event := timeout) (rest := rest)
      (Q := fun m u => m.state = .off ∧ m.timeouts = 0 ∧ m.health = .ok ∧ u = s.portals.get p) h hvalid
      fun t hst hrunning hdraft hportals hphotometer => by
      rw [Photometer.adopt_of_off _ hoff] at hphotometer
      obtain ⟨m, hexec, hm⟩ := exec_timeout htimeout hst
      refine ⟨m, _, hexec, ?_⟩
      rw [hm (by rw [hphotometer]), hphotometer, hportals]
      exact ⟨rfl, rfl, rfl, rfl⟩
    exact ⟨t, hrun, hQ⟩

end

/-- Settles O17: each pair of commands by the one that is taken first. -/
theorem adoptionMeetsThePhotometer : Obligations.AdoptionMeetsThePhotometer := by
  unfold Obligations.AdoptionMeetsThePhotometer
  intro p k c s rest h hvalid
  have hs := h.1.1
  refine ⟨?edgeFirst, run_adopt_edge_of_off rest h hvalid k, ?keepsOn, run_timeout_of_off rest h hvalid, ?expiryAfter,
    ?expiryBefore⟩
  case edgeFirst =>
    obtain ⟨u, hexec⟩ := exec_edge (s := { s with pending := .adopt .s false [] :: rest }) hs p k
    obtain ⟨t, hrun, hrunning, hphotometer, -⟩ := run_event_adopt h hvalid hexec
    refine ⟨t, hrun, hrunning, ?_⟩
    rintro hoff hdetected hst rfl - hcount hn hlen
    have hedge := Photometer.edge_of_last hdetected hst hcount hn
    have hfigure := exec_edge_figure (s := { s with pending := .adopt .s false [] :: rest }) h.1.1 hedge
    rw [State.planAtArrival_before_adopt p rest h, if_pos ⟨hvalid, hoff⟩] at hfigure
    obtain ⟨t', hrun', -, -, hportal⟩ := run_event_adopt h hvalid hfigure
    obtain rfl := Host.Outcome.next.inj (hrun.symm.trans hrun')
    rw [hphotometer, Photometer.adopt_of_off _ hoff, hportal]
    refine ⟨rfl, rfl, rfl, rfl, (PortalUnit.localSample_frame _ _ _).1, fun hdiscards => ?_, fun hfallback hmark => ?_⟩
    · rw [PortalUnit.localSample_discarded]
      rcases hdiscards with hstation | hmark
      · exact .inl hstation
      · cases hm : (s.plans.draft.portals.get p).mode with
        | station => exact .inl rfl
        | stationFallback => exact .inr ⟨rfl, hmark⟩
        | localOnly => exact absurd hm (Plan.mode_of_photometerOff hvalid hoff)
    · exact (PortalUnit.localSample_entered _ hlen (.inr ⟨hfallback, hmark⟩)).1
  case keepsOn =>
    rintro both mode hboth hon hdetected hst rfl - hcount hn hlen
    obtain ⟨t, hrun, hrunning, hstate, hinterval, hportal⟩ :=
      run_completion_of_on rest h hvalid hboth hon hdetected hst hcount hn
    refine ⟨t, hrun, hrunning, hstate, hinterval, ?_, fun henters => ?_, fun hdiscards => ?_⟩
    · rw [hportal]
      exact (PortalUnit.localSample_frame _ _ _).1
    · rw [hportal]
      exact (PortalUnit.localSample_entered _ hlen henters).1
    · rw [hportal, PortalUnit.localSample_discarded _ hdiscards]
  case expiryAfter =>
    obtain ⟨t, hrun, -, hQ⟩ := run_adopt_event (p := p) (event := .intervalTimerExpiry p) (rest := rest)
      (Q := fun m _ => m = ((s.photometers.get p).adopt (s.plans.draft.portals.get p)).intervalExpiry
        (s.plans.draft.portals.get p)) h hvalid
      fun t hst hrunning hdraft hportals hphotometer =>
        ⟨_, _, (exec_intervalTimerExpiry hst p).trans (next_setPortal_same rfl), by rw [hrunning, hphotometer]⟩
    refine ⟨t, hrun, fun hoff => ?_, fun hon hst => ?_⟩
    · rw [hQ, Photometer.adopt_of_off _ hoff, Photometer.intervalExpiry_of_off _ rfl]
      exact ⟨rfl, rfl⟩
    · rw [hQ, Photometer.adopt_of_on hon (by simp [hst]), Photometer.intervalExpiry_of_waiting _ hst]
      exact ⟨rfl, rfl, rfl, rfl⟩
  case expiryBefore =>
    obtain ⟨t, hrun, -, hphotometer, -⟩ := run_event_adopt (p := p) (rest := rest) h hvalid
      ((exec_intervalTimerExpiry (s := { s with pending := .adopt .s false [] :: rest }) hs p).trans
        (next_setPortal_same rfl))
    refine ⟨t, hrun, fun hoff => ?_, fun hon hst => ?_⟩
    · rw [hphotometer, Photometer.adopt_of_off _ hoff]
      exact ⟨rfl, rfl⟩
    · have harmed := Photometer.intervalExpiry_of_waiting (s.plans.running.portals.get p) hst
      rw [hphotometer, harmed, Photometer.adopt_of_on hon (by simp)]
      exact ⟨rfl, rfl, rfl, rfl⟩

end Sys2Proof.Machine
end

section
/-! PROOFS. The part's own clock on an empty queue (log 5). -/

namespace Sys2Proof.Machine

theorem step_of_empty {s : State} (h : s.pending = []) : step s = .next s.clock := by
  simp only [step, h]

theorem State.phase_of_started {s : State} (h : s.started = true) : s.monitor.phase = .run := by
  simpa [State.started] using h

theorem State.clock_of_started {s : State} (h : s.started = true) : s.clock = s.clockRun := by
  simp only [clock, phase_of_started h]

/-! ### Each block of a started part -/

theorem State.clockRun_portals (s : State) (p : Portal) : s.clockRun.portals.get p = ((s.portals.get p).clock p).1 := by
  cases p <;> rfl

theorem State.clockRun_photometers (s : State) (p : Portal) :
    s.clockRun.photometers.get p = ((s.photometers.get p).clock p ((s.monitor.divider + 1) % 16 == 0)).1 := by
  cases p <;> rfl

theorem State.clockRun_lines (s : State) (l : Line) :
    s.clockRun.lines.get l = ((s.lines.get l).clock l s.straps.rate).1 := by
  cases l <;> rfl

theorem PortalUnit.clock_eq (p : Portal) (u : PortalUnit) :
    (u.clock p).1 =
      { u with tickPhase := if 1600000 ≤ u.tickPhase + 1 then u.tickPhase else u.tickPhase + 1 } := by
  unfold clock Config.clocksPer100ms
  split <;> rfl

theorem ClaimTable.clock_eq (t : ClaimTable) :
    t.clock.1 = { t with phase := if 1600000 ≤ t.phase + 1 then t.phase else t.phase + 1 } := by
  unfold clock Config.clocksPer100ms
  split <;> rfl

/-- The pass timer within a unit of 100 ms, at a unit's end, and at its last. -/
theorem ZoneEngine.clock_cases (e : ZoneEngine) :
    (e.passPhase + 1 < 1600000 → e.clock.1 = { e with passPhase := e.passPhase + 1 })
      ∧ (1600000 ≤ e.passPhase + 1 → 2 ≤ e.passTimer → e.clock.1 = { e with passTimer := e.passTimer - 1, passPhase := 0 })
      ∧ (1600000 ≤ e.passPhase + 1 → e.passTimer ≤ 1 → e.clock.1 = e) := by
  unfold clock Config.clocksPer100ms
  refine ⟨fun h => ?_, fun h ht => ?_, fun h ht => ?_⟩
  · rw [if_neg (Nat.not_le.2 h)]
  · rw [if_pos h, if_neg (by omega)]
  · rw [if_pos h, if_pos ht]

theorem ZoneEngine.clock_frame (e : ZoneEngine) :
    e.clock.1 = { e with passTimer := e.clock.1.passTimer, passPhase := e.clock.1.passPhase } := by
  unfold clock
  split
  · split <;> rfl
  · rfl

/-- The interval timer stopped, within a millisecond, at a millisecond's end, and at its last. -/
theorem Photometer.intervalClock_cases (p : Portal) (m : Photometer) :
    (m.interval = none → (m.intervalClock p).1 = m)
      ∧ ∀ n, m.interval = some n →
        (m.msPhase + 1 < 16000 → (m.intervalClock p).1 = { m with msPhase := m.msPhase + 1 })
          ∧ (16000 ≤ m.msPhase + 1 → 2 ≤ n → (m.intervalClock p).1 = { m with interval := some (n - 1), msPhase := 0 })
          ∧ (16000 ≤ m.msPhase + 1 → n ≤ 1 → (m.intervalClock p).1 = m) := by
  unfold intervalClock Config.clocksPerMs
  refine ⟨fun h => by simp only [h], fun n h => ⟨fun hms => ?_, fun hms hn => ?_, fun hms hn => ?_⟩⟩
  · simp only [h, if_neg (Nat.not_le.2 hms)]
  · simp only [h, if_pos hms, if_neg (show ¬n ≤ 1 by omega)]
  · simp only [h, if_pos hms, if_pos hn]

/-- A clock of the photometer: the interval timer always, the measurement where the capture clock ticks. -/
theorem Photometer.clock_eq (p : Portal) (capture : Bool) (m : Photometer) :
    (m.clock p capture).1 =
      { m with
        interval := (m.intervalClock p).1.interval
        msPhase := (m.intervalClock p).1.msPhase
        edgeWindow :=
          if capture = true ∧ m.state = .armed ∧ m.edgeWindow + 1 < 65536 then m.edgeWindow + 1 else m.edgeWindow
        captureCount :=
          if capture = true ∧ m.state = .counting ∧ m.captureCount + 1 < 65536 then m.captureCount + 1
          else m.captureCount
        sinceEdge := (m.clock p capture).1.sinceEdge } := by
  unfold clock
  have h := Photometer.intervalClock_measurement p m
  cases capture with
  | false =>
    have hsince : (m.intervalClock p).1.sinceEdge = m.sinceEdge := (congrArg Photometer.sinceEdge h :)
    simpa only [Bool.false_eq_true, false_and, if_false, hsince] using h
  | true =>
    simp only [if_true, true_and]
    rw [Photometer.captureClock_measurement]
    generalize (captureClock p (intervalClock p m).1).1.sinceEdge = sinceEdge
    rw [h]

theorem Monitor.waitClock_eq (m : Monitor) (pins : Pins) :
    m.waitClock pins =
      ({ m with waitClocks := if 65536 ≤ m.waitClocks + 1 then m.waitClocks else m.waitClocks + 1 },
        if 65536 ≤ m.waitClocks + 1 then [Instr.startUp pins.address pins.rate] else []) := by
  unfold waitClock Config.startUpWait
  by_cases h : 65536 ≤ m.waitClocks + 1
  · simp only [if_pos h]
  · simp only [if_neg h]

/-! ### The events of a clock -/

/-- The commands that a clock of a started part puts in an empty queue. -/
theorem State.mem_clock_pending {s : State} {c : Instr} (h : s.started = true) (hqueue : s.pending = []) :
    c ∈ s.clock.pending ↔
      c ∈ (s.safety.clock s.pins).2
        ∨ (∃ p, c ∈ ((s.portals.get p).clock p).2)
        ∨ (∃ p, c ∈ ((s.photometers.get p).clock p ((s.monitor.divider + 1) % 16 == 0)).2)
        ∨ c ∈ s.claims.clock.2 ∨ c ∈ s.engine.clock.2
        ∨ ((s.monitor.divider + 1) % 4 = 0 ∧ c ∈ (s.stage.clock s.pins).2)
        ∨ (∃ l, c ∈ ((s.lines.get l).clock l s.straps.rate).2)
        ∨ c ∈ (s.store.clock s.freeCount).2 := by
  have hportal : ∀ P : Portal → Prop, (∃ p, P p) ↔ P .a ∨ P .b := fun P =>
    ⟨fun ⟨p, hp⟩ => by cases p; exacts [.inl hp, .inr hp], fun hp => hp.elim (⟨_, ·⟩) (⟨_, ·⟩)⟩
  have hline : ∀ P : Line → Prop, (∃ l, P l) ↔ P .a ∨ P .b ∨ P .s := fun P =>
    ⟨fun ⟨l, hl⟩ => by cases l; exacts [.inl hl, .inr (.inl hl), .inr (.inr hl)],
      fun hl => hl.elim (⟨_, ·⟩) (·.elim (⟨_, ·⟩) (⟨_, ·⟩))⟩
  have hstage : c ∈ (if (s.monitor.divider + 1) % 4 = 0 then s.stage.clock s.pins else (s.stage, [])).2 ↔
      (s.monitor.divider + 1) % 4 = 0 ∧ c ∈ (s.stage.clock s.pins).2 := by
    split <;> simp [*]
  rw [State.clock_pending h, hqueue, hportal, hportal, hline]
  simp only [List.mem_append, List.not_mem_nil, false_or, hstage, or_assoc]
  rfl

theorem mem_ite_singleton {P : Prop} [Decidable P] {c d : Instr} : c ∈ (if P then [d] else []) ↔ P ∧ c = d := by
  split <;> simp [*]

theorem SafetyInputs.mem_clock {pins : Pins} {x : SafetyInputs} {c : Instr} :
    c ∈ (x.clock pins).2 ↔
      ((x.trip = false ∧ ∃ n, x.qualifying = some n ∧ 16 ≤ n + 1) ∧ c = .tripAssertionAccepted)
        ∨ ((x.trip = true ∧ ∃ n, x.qualifying = some n ∧ 16 ≤ n + 1) ∧ c = .tripReleaseAccepted)
        ∨ (16000 ≤ x.samplePhase + 1 ∧ c = .sampleEvent pins.fireN pins.backupN) := by
  rw [(SafetyInputs.clock_eq pins x).2, List.mem_append, mem_ite_singleton, mem_ite_singleton]
  cases x.trip <;> simp

theorem PortalUnit.mem_clock {p : Portal} {u : PortalUnit} {c : Instr} :
    c ∈ (u.clock p).2 ↔ 1600000 ≤ u.tickPhase + 1 ∧ c = .tick p := by
  rw [PortalUnit.clock_events, mem_ite_singleton]

theorem Photometer.mem_clock {p : Portal} {capture : Bool} {m : Photometer} {c : Instr} :
    c ∈ (m.clock p capture).2 ↔
      (capture = true ∧ m.state = .armed ∧ 65536 ≤ m.edgeWindow + 1 ∧ c = .firstEdgeTimeout p)
        ∨ (capture = true ∧ m.state = .counting ∧ 65536 ≤ m.captureCount + 1 ∧ c = .countOverflowTimeout p)
        ∨ (16000 ≤ m.msPhase + 1 ∧ (∃ n, m.interval = some n ∧ n ≤ 1) ∧ c = .intervalTimerExpiry p) := by
  rw [Photometer.clock_events, Photometer.captureClock_events, Photometer.intervalClock_events]
  cases capture <;> simp only [Bool.false_eq_true, if_false, if_true, List.mem_append, mem_ite_singleton, List.not_mem_nil,
    false_and, true_and, false_or, and_assoc, or_assoc]

theorem ClaimTable.mem_clock {t : ClaimTable} {c : Instr} : c ∈ t.clock.2 ↔ 1600000 ≤ t.phase + 1 ∧ c = .claimCheck := by
  rw [ClaimTable.clock_events, mem_ite_singleton]

theorem ZoneEngine.mem_clock {e : ZoneEngine} {c : Instr} :
    c ∈ e.clock.2 ↔ (1600000 ≤ e.passPhase + 1 ∧ e.passTimer ≤ 1) ∧ c = .levelPass := by
  rw [ZoneEngine.clock_events, mem_ite_singleton]

theorem Stage.mem_clock {pins : Pins} {x : Stage} {c : Instr} :
    c ∈ (x.clock pins).2 ↔
      ((x.period ≤ x.counter + 1 ∧ x.repetition ≤ x.refreshCount + 1) ∧ c = .refresh pins.flt)
        ∨ ((x.period ≤ x.counter + 1 ∧ x.refreshCount + 1 < x.repetition) ∧ c = .periodEnd) := by
  rw [(Stage.clock_eq pins x).2, List.mem_append, mem_ite_singleton, mem_ite_singleton]

theorem LinePort.mem_clock {l : Line} {rate : BitVec 2} {x : LinePort} {c : Instr} :
    c ∈ (x.clock l rate).2 ↔
      ((x.state = .collect ∧ lastsChars rate 3 (x.silence.getD 0 + 1) = true) ∧ c = .gapTimeout l)
        ∨ ((x.state = .turnaround ∧ lastsChars rate 2 (x.silence.getD 0 + 1) = true) ∧ c = .turnaroundSilence l)
        ∨ ((x.state = .reply ∧ lastsChars rate x.reply.length (x.sent + 1) = true) ∧ c = .replyEnd l) := by
  rw [LinePort.clock_events]
  simp only [List.mem_append, mem_ite_singleton, or_assoc]

theorem Store.mem_clock {free : Nat} {x : Store} {c : Instr} :
    c ∈ (x.clock free).2 ↔
      ((x.state = .erasing ∧ 192000 ≤ x.phase + 1) ∧ c = .pageErased)
        ∨ ((x.state = .programming ∧ 640 ≤ x.phase + 1 ∧ 512 ≤ x.index + 1) ∧ c = .programmingComplete)
        ∨ ((x.state = .verifying ∧ 8832 ≤ x.phase + 1)
          ∧ c = .verifyComplete (Config.readBackDiffers free) (Config.markerReadBack free)) := by
  rw [Store.clock_events]
  simp only [List.mem_append, mem_ite_singleton, or_assoc]

/-- The commands that a clock of a started part puts in an empty queue, each under its own condition. -/
theorem State.mem_clock_iff {s : State} {c : Instr} (h : s.started = true) (hqueue : s.pending = []) :
    c ∈ s.clock.pending ↔
      (((s.safety.trip = false ∧ ∃ n, s.safety.qualifying = some n ∧ 16 ≤ n + 1) ∧ c = .tripAssertionAccepted)
        ∨ ((s.safety.trip = true ∧ ∃ n, s.safety.qualifying = some n ∧ 16 ≤ n + 1) ∧ c = .tripReleaseAccepted)
        ∨ (16000 ≤ s.safety.samplePhase + 1 ∧ c = .sampleEvent s.pins.fireN s.pins.backupN))
      ∨ (∃ p, 1600000 ≤ (s.portals.get p).tickPhase + 1 ∧ c = .tick p)
      ∨ (∃ p, ((s.monitor.divider + 1) % 16 = 0 ∧ (s.photometers.get p).state = .armed
            ∧ 65536 ≤ (s.photometers.get p).edgeWindow + 1 ∧ c = .firstEdgeTimeout p)
          ∨ ((s.monitor.divider + 1) % 16 = 0 ∧ (s.photometers.get p).state = .counting
            ∧ 65536 ≤ (s.photometers.get p).captureCount + 1 ∧ c = .countOverflowTimeout p)
          ∨ (16000 ≤ (s.photometers.get p).msPhase + 1
            ∧ (∃ n, (s.photometers.get p).interval = some n ∧ n ≤ 1) ∧ c = .intervalTimerExpiry p))
      ∨ (1600000 ≤ s.claims.phase + 1 ∧ c = .claimCheck)
      ∨ ((1600000 ≤ s.engine.passPhase + 1 ∧ s.engine.passTimer ≤ 1) ∧ c = .levelPass)
      ∨ ((s.monitor.divider + 1) % 4 = 0
        ∧ (((s.stage.period ≤ s.stage.counter + 1 ∧ s.stage.repetition ≤ s.stage.refreshCount + 1)
              ∧ c = .refresh s.pins.flt)
          ∨ ((s.stage.period ≤ s.stage.counter + 1 ∧ s.stage.refreshCount + 1 < s.stage.repetition) ∧ c = .periodEnd)))
      ∨ (∃ l, (((s.lines.get l).state = .collect
              ∧ lastsChars s.straps.rate 3 ((s.lines.get l).silence.getD 0 + 1) = true) ∧ c = .gapTimeout l)
          ∨ (((s.lines.get l).state = .turnaround
              ∧ lastsChars s.straps.rate 2 ((s.lines.get l).silence.getD 0 + 1) = true) ∧ c = .turnaroundSilence l)
          ∨ (((s.lines.get l).state = .reply
              ∧ lastsChars s.straps.rate (s.lines.get l).reply.length ((s.lines.get l).sent + 1) = true)
            ∧ c = .replyEnd l))
      ∨ (((s.store.state = .erasing ∧ 192000 ≤ s.store.phase + 1) ∧ c = .pageErased)
        ∨ ((s.store.state = .programming ∧ 640 ≤ s.store.phase + 1 ∧ 512 ≤ s.store.index + 1)
          ∧ c = .programmingComplete)
        ∨ ((s.store.state = .verifying ∧ 8832 ≤ s.store.phase + 1)
          ∧ c = .verifyComplete (Config.readBackDiffers s.freeCount) (Config.markerReadBack s.freeCount))) := by
  simp only [State.mem_clock_pending h hqueue, SafetyInputs.mem_clock, PortalUnit.mem_clock, Photometer.mem_clock,
    ClaimTable.mem_clock, ZoneEngine.mem_clock, Stage.mem_clock, LinePort.mem_clock, Store.mem_clock, beq_iff_eq]

/-! ### What a clock moves -/

/-- Settles O3: a started part block by block, a held part by its power timer, the start-up wait. -/
theorem emptyQueueStepMovesOnlyTimers : Obligations.EmptyQueueStepMovesOnlyTimers := by
  unfold Obligations.EmptyQueueStepMovesOnlyTimers
  refine ⟨fun s hs hqueue => ?run, fun s hheld hqueue => ?held, fun s hwait hqueue => ?wait⟩
  case run =>
    have hclock := State.clock_of_started hs
    refine ⟨_, step_of_empty hqueue, s.clock_plans, s.clock_straps, s.clock_pins, s.clock_faults, s.clock_table, ?_,
      s.clock_stage, ?_, fun p => ?_, fun p => ?_, s.clock_lines, ?_, ?_⟩
    · rw [hclock]
      exact s.engine.clock_frame
    · exact s.clock_safety
    · obtain ⟨n, hn⟩ := s.clock_portal p
      rw [hn]
    · rw [hclock, State.clockRun_photometers, Photometer.clock_eq]
    · rw [hclock]
      exact Store.clock_frame _ _
    · rw [hclock]
      rfl
  case held =>
    have hclock : s.clock = s.clockHeld := by simp only [State.clock, hheld]
    rw [step_of_empty hqueue, hclock]
    unfold State.clockHeld Monitor.clock Config.powerOnClocks
    cases s.monitor.powerTimer with
    | none => simp
    | some n =>
      by_cases hn : 32000 ≤ n + 1
      · simp [hn, hqueue]
      · simp [hn]
  case wait =>
    have hclock : s.clock = s.clockWait := by simp only [State.clock, hwait]
    have hpending : s.clock.pending = (s.safety.clock s.pins).2
        ++ if 65536 ≤ s.monitor.waitClocks + 1 then [Instr.startUp s.pins.address s.pins.rate] else [] := by
      rw [hclock]
      simp only [State.clockWait, hqueue, List.nil_append, Monitor.waitClock_eq]
    have hmem : ∀ c, c ∈ s.clock.pending ↔ c ∈ (s.safety.clock s.pins).2
        ∨ (65536 ≤ s.monitor.waitClocks + 1 ∧ c = .startUp s.pins.address s.pins.rate) := fun c => by
      rw [hpending, List.mem_append, mem_ite_singleton]
    refine ⟨_, step_of_empty hqueue, ?_, ?_, ?_, ?_⟩
    · rw [hclock]
      simp only [State.clockWait, (SafetyInputs.clock_eq s.pins s.safety).1, Monitor.waitClock_eq]
    · rw [hmem, SafetyInputs.mem_clock]
      simp
    · rw [hmem, SafetyInputs.mem_clock]
      simp
    · rw [hmem, SafetyInputs.mem_clock]
      simp

end Sys2Proof.Machine
end

section
/-! PROOFS. The counts at which the events of a started part fall due (logs 5, 31). -/

namespace Sys2Proof.Machine

theorem State.step_eq_clock {s t : State} (hqueue : s.pending = []) (h : step s = .next t) : t = s.clock := by
  rw [step_of_empty hqueue] at h
  cases h
  rfl

theorem lastsChars_iff {rate : BitVec 2} {n clocks : Nat} :
    lastsChars rate n clocks = true ↔ n * 11 * 16000000 ≤ clocks * bitRate rate := by
  unfold lastsChars
  exact decide_eq_true_iff

/-! ### What a clock does to the counts of a block -/

section
variable {s : State} (hs : s.started = true)
include hs

theorem State.clock_tickPhase (p : Portal) :
    (s.clock.portals.get p).tickPhase =
      if 1600000 ≤ (s.portals.get p).tickPhase + 1 then (s.portals.get p).tickPhase
      else (s.portals.get p).tickPhase + 1 := by
  rw [State.clock_of_started hs, State.clockRun_portals, PortalUnit.clock_eq]

theorem State.clock_claimPhase :
    s.clock.claims.phase = if 1600000 ≤ s.claims.phase + 1 then s.claims.phase else s.claims.phase + 1 := by
  rw [State.clock_of_started hs]
  exact congrArg ClaimTable.phase s.claims.clock_eq

theorem State.clock_engine : s.clock.engine = s.engine.clock.1 := by
  rw [State.clock_of_started hs]
  rfl

theorem State.clock_safety_started :
    s.clock.safety =
      { s.safety with
        samplePhase := if 16000 ≤ s.safety.samplePhase + 1 then s.safety.samplePhase else s.safety.samplePhase + 1
        qualifying := s.safety.qualifying.map fun n => if 16 ≤ n + 1 then n else n + 1 } := by
  rw [State.clock_of_started hs]
  exact (SafetyInputs.clock_eq s.pins s.safety).1

theorem State.clock_divider : s.clock.monitor.divider = (s.monitor.divider + 1) % 16 := by
  rw [State.clock_of_started hs]
  rfl

theorem State.clock_photometer (p : Portal) :
    s.clock.photometers.get p =
      { s.photometers.get p with
        interval := ((s.photometers.get p).intervalClock p).1.interval
        msPhase := ((s.photometers.get p).intervalClock p).1.msPhase
        edgeWindow :=
          if (s.monitor.divider + 1) % 16 = 0 ∧ (s.photometers.get p).state = .armed
              ∧ (s.photometers.get p).edgeWindow + 1 < 65536 then (s.photometers.get p).edgeWindow + 1
          else (s.photometers.get p).edgeWindow
        captureCount :=
          if (s.monitor.divider + 1) % 16 = 0 ∧ (s.photometers.get p).state = .counting
              ∧ (s.photometers.get p).captureCount + 1 < 65536 then (s.photometers.get p).captureCount + 1
          else (s.photometers.get p).captureCount
        sinceEdge := (s.clock.photometers.get p).sinceEdge } := by
  rw [State.clock_of_started hs, State.clockRun_photometers, Photometer.clock_eq]
  simp only [beq_iff_eq]

/-- The PWM clock is every 4th clock: the divider by 16 tells it as well as a count of its own. -/
theorem State.clock_counter :
    s.clock.stage.counter =
      if (s.monitor.divider + 1) % 4 = 0 ∧ s.stage.counter + 1 < s.stage.period then s.stage.counter + 1
      else s.stage.counter := by
  have hstage : s.clock.stage =
      (if (s.monitor.divider + 1) % 16 % 4 = 0 then s.stage.clock s.pins else (s.stage, [])).1 := by
    rw [State.clock_of_started hs]
    rfl
  rw [hstage, Nat.mod_mod_of_dvd _ (by decide : 4 ∣ 16)]
  by_cases hpwm : (s.monitor.divider + 1) % 4 = 0
  · rw [if_pos hpwm, (Stage.clock_eq s.pins s.stage).1]
    simp only [hpwm, true_and]
  · simp only [hpwm, if_false, false_and]

theorem State.clock_store_started : s.clock.store = (s.store.clock s.freeCount).1 := by
  rw [State.clock_of_started hs]
  rfl

theorem State.clock_line (l : Line) : s.clock.lines.get l = ((s.lines.get l).clock l s.straps.rate).1 := by
  rw [State.clock_of_started hs, State.clockRun_lines]

end

/-! ### The store and the line ports, by their states -/

theorem Store.clock_of_idle {free : Nat} {x : Store} (h : x.state = .idle) : (x.clock free).1 = x := by
  simp only [clock, h]

/-- Within a step of a save its clocks are counted. -/
theorem Store.clock_within {free : Nat} {x : Store}
    (h : x.state = .erasing ∧ x.phase + 1 < 192000 ∨ x.state = .programming ∧ x.phase + 1 < 640
      ∨ x.state = .verifying ∧ x.phase + 1 < 8832) : (x.clock free).1 = { x with phase := x.phase + 1 } := by
  unfold clock Config.eraseClocks Config.programClocks Config.verifyClocks
  obtain ⟨hstate, hphase⟩ | ⟨hstate, hphase⟩ | ⟨hstate, hphase⟩ := h
  · simp only [hstate, if_neg (Nat.not_le.2 hphase)]
  · simp only [hstate, if_pos hphase]
  · simp only [hstate, if_neg (Nat.not_le.2 hphase)]

theorem Store.clock_of_byte {free : Nat} {x : Store} (hstate : x.state = .programming) (hphase : 640 ≤ x.phase + 1)
    (hindex : x.index + 1 < 512) : (x.clock free).1.index = x.index + 1 ∧ (x.clock free).1.phase = 0 := by
  simp only [clock, Config.programClocks, Config.imageSize, hstate, if_neg (Nat.not_lt.2 hphase),
    if_neg (Nat.not_le.2 hindex), and_self]

/-- At the end of a step of a save the counts stand. -/
theorem Store.clock_at_end {free : Nat} {x : Store}
    (h : x.state = .erasing ∧ 192000 ≤ x.phase + 1 ∨ x.state = .programming ∧ 640 ≤ x.phase + 1 ∧ 512 ≤ x.index + 1
      ∨ x.state = .verifying ∧ 8832 ≤ x.phase + 1) : (x.clock free).1 = x := by
  unfold clock Config.eraseClocks Config.programClocks Config.imageSize Config.verifyClocks
  obtain ⟨hstate, hphase⟩ | ⟨hstate, hphase, hindex⟩ | ⟨hstate, hphase⟩ := h
  · simp only [hstate, if_pos hphase]
  · simp only [hstate, if_neg (Nat.not_lt.2 hphase), if_pos hindex]
  · simp only [hstate, if_pos hphase]

section
variable {x : LinePort} (l : Line) (rate : BitVec 2)

theorem LinePort.clock_of_listen (h : x.state = .listen) : (x.clock l rate).1 = x := by
  simp only [clock, h]

theorem LinePort.clock_of_collect {n : Nat} (h : x.state = .collect) (hsilence : x.silence = some n) :
    (x.clock l rate).1 = if lastsChars rate 3 (n + 1) = true then x else { x with silence := some (n + 1) } := by
  simp only [clock, h, hsilence, Option.getD_some]
  split <;> rfl

theorem LinePort.clock_of_turnaround {n : Nat} (h : x.state = .turnaround) (hsilence : x.silence = some n) :
    (x.clock l rate).1 = if lastsChars rate 2 (n + 1) = true then x else { x with silence := some (n + 1) } := by
  simp only [clock, h, hsilence, Option.getD_some]
  split <;> rfl

theorem LinePort.clock_of_reply (h : x.state = .reply) :
    (x.clock l rate).1 =
      if lastsChars rate x.reply.length (x.sent + 1) = true then x else { x with sent := x.sent + 1 } := by
  simp only [clock, h]
  split <;> rfl

end

/-! ### The four groups of timers -/

section
variable {s : State} (hs : s.started = true) (hqueue : s.pending = [])
include hs hqueue

theorem State.tick_falls_due (p : Portal) :
    Instr.tick p ∈ s.clock.pending ↔ 1600000 ≤ (s.portals.get p).tickPhase + 1 := by
  simp [State.mem_clock_iff hs hqueue]

theorem State.gap_falls_due (l : Line) :
    Instr.gapTimeout l ∈ s.clock.pending ↔
      (s.lines.get l).state = .collect ∧ lastsChars s.straps.rate 3 ((s.lines.get l).silence.getD 0 + 1) = true := by
  simp [State.mem_clock_iff hs hqueue]

theorem State.turnaround_falls_due (l : Line) :
    Instr.turnaroundSilence l ∈ s.clock.pending ↔
      (s.lines.get l).state = .turnaround
        ∧ lastsChars s.straps.rate 2 ((s.lines.get l).silence.getD 0 + 1) = true := by
  simp [State.mem_clock_iff hs hqueue]

theorem State.replyEnd_falls_due (l : Line) :
    Instr.replyEnd l ∈ s.clock.pending ↔
      (s.lines.get l).state = .reply
        ∧ lastsChars s.straps.rate (s.lines.get l).reply.length ((s.lines.get l).sent + 1) = true := by
  simp [State.mem_clock_iff hs hqueue]

end

/-- Settles O4: each event by the list of a clock's events, each count by the clock of its block. -/
theorem timersFallDueAtTheirCounts : Obligations.TimersFallDueAtTheirCounts := by
  unfold Obligations.TimersFallDueAtTheirCounts
  refine ⟨fun s t hs hqueue h => ?blocks, fun s t p hs hqueue h => ?photometer, fun s t hs hqueue h => ?stageStore,
    fun s t l hs hqueue h => ?line, rfl, rfl, rfl, rfl⟩ <;> obtain rfl := State.step_eq_clock hqueue h
  case blocks =>
    obtain ⟨hwithin, hunit, hlast⟩ := s.engine.clock_cases
    rw [State.clock_engine hs, State.clock_safety_started hs]
    refine ⟨fun p => ⟨State.tick_falls_due hs hqueue p, State.clock_tickPhase hs p⟩, ?_, State.clock_claimPhase hs, ?_,
      fun hphase => ?_, fun hphase htimer => ?_, hlast, ?_, rfl, ?_, ?_, rfl, State.clock_divider hs⟩
    · simp [State.mem_clock_iff hs hqueue]
    · simp [State.mem_clock_iff hs hqueue]
    · rw [hwithin hphase]
      exact ⟨rfl, rfl⟩
    · rw [hunit hphase htimer]
      exact ⟨rfl, rfl⟩
    · simp [State.mem_clock_iff hs hqueue]
    · simp [State.mem_clock_iff hs hqueue]
    · simp [State.mem_clock_iff hs hqueue]
  case photometer =>
    obtain ⟨hstopped, hruns⟩ := (s.photometers.get p).intervalClock_cases p
    rw [State.clock_photometer hs]
    refine ⟨fun hnone => ?_, fun n hn => ?_, ?_, rfl, rfl, ?_, ?_⟩
    · rw [hstopped hnone]
      exact ⟨hnone, rfl⟩
    · obtain ⟨hwithin, hunit, hlast⟩ := hruns n hn
      refine ⟨fun hms => ?_, fun hms h2 => ?_, fun hms h1 => ?_⟩
      · rw [hwithin hms]
        exact ⟨hn, rfl⟩
      · rw [hunit hms h2]
        exact ⟨rfl, rfl⟩
      · rw [hlast hms h1]
        exact ⟨hn, rfl⟩
    · simp [State.mem_clock_iff hs hqueue]
    · simp [State.mem_clock_iff hs hqueue]
    · simp [State.mem_clock_iff hs hqueue]
  case stageStore =>
    rw [State.clock_store_started hs]
    refine ⟨State.clock_counter hs, ?_, ?_, Store.clock_of_idle, Store.clock_within, Store.clock_of_byte, ?_, ?_, ?_,
      Store.clock_at_end⟩
    · simp [State.mem_clock_iff hs hqueue]
    · simp [State.mem_clock_iff hs hqueue]
    · simp [State.mem_clock_iff hs hqueue]
    · simp [State.mem_clock_iff hs hqueue]
    · simp [State.mem_clock_iff hs hqueue]
  case line =>
    simp only [← lastsChars_iff, State.clock_line hs]
    refine ⟨LinePort.clock_of_listen l _, fun n hn hstate => ?_, fun n hn hstate => ?_, fun hstate => ?_⟩
    · rw [State.gap_falls_due hs hqueue, LinePort.clock_of_collect l _ hstate hn, hn]
      exact ⟨and_iff_right hstate, fun hlasts => if_pos hlasts, fun hlasts => if_neg hlasts⟩
    · rw [State.turnaround_falls_due hs hqueue, LinePort.clock_of_turnaround l _ hstate hn, hn]
      exact ⟨and_iff_right hstate, fun hlasts => if_pos hlasts, fun hlasts => if_neg hlasts⟩
    · rw [State.replyEnd_falls_due hs hqueue, LinePort.clock_of_reply l _ hstate]
      exact ⟨and_iff_right hstate, fun hlasts => if_pos hlasts, fun hlasts => if_neg hlasts⟩

end Sys2Proof.Machine
end

section
/-! PROOFS. The reads (R26, R43, R68, R92, R113, R167, R191, R198 to R202, R206). -/

namespace Sys2Proof.Machine

/-! ### READ PORTALS and READ ZONES -/

/-- The entry of a portal rests on its unit, its photometer and the running plan's curve alone. -/
theorem State.portalEntry_addressed (s : State) (l : Line) (bc : Bool) (p : Portal) :
    (s.addressed l bc).portalEntry p =
      [(s.portals.get p).state.code] ++ be16 (s.portals.get p).effLum
        ++ be16 (curveLookup (s.plans.running.curves.get p) (s.portals.get p).effLum)
        ++ [u8 (s.portals.get p).window.length, flag (s.portals.get p).mark.isSome, (s.photometers.get p).state.code,
          (s.photometers.get p).health.code]
        ++ be16 ((s.portals.get p).lastLocal.getD 0xFFFF) := by
  simp only [State.portalEntry, State.portalFigures, State.demand, State.addressed_portals, State.addressed_photometers,
    State.addressed_plans, List.append_assoc, List.cons_append, List.nil_append]

theorem exec_readPortals {s : State} {l : Line} (h : s.Reached l) :
    exec (.readPortals l false []) s = .next ((s.addressed l false).answered l 0x02
      ⟨.done, [Portal.a, Portal.b].flatMap fun p =>
        [(s.portals.get p).state.code] ++ be16 (s.portals.get p).effLum
          ++ be16 (curveLookup (s.plans.running.curves.get p) (s.portals.get p).effLum)
          ++ [u8 (s.portals.get p).window.length, flag (s.portals.get p).mark.isSome, (s.photometers.get p).state.code,
            (s.photometers.get p).health.code]
          ++ be16 ((s.portals.get p).lastLocal.getD 0xFFFF)⟩) := by
  simp only [← State.portalEntry_addressed s l false, List.flatMap_cons, List.flatMap_nil, List.append_nil]
  exact exec_reached .readPortals h (by simp) rfl rfl

theorem exec_readZones {s : State} {l : Line} (h : s.Reached l) :
    exec (.readZones l false []) s = .next ((s.addressed l false).answered l 0x03
      ⟨.done, packCodes (s.plans.running.zones.map ZoneRecord.zoneCode) ++ s.zoneEntries⟩) :=
  exec_reached .readZones h (by simp) rfl rfl

theorem State.zoneEntries_eq (s : State) :
    s.zoneEntries =
      ((s.plans.running.zones.zipIdx.zip s.engine.zones).filter fun x => decide (x.1.1.kind ≠ .unused)).flatMap fun x =>
        [u8 ((if x.2.flags.claimedFloor then 128 else 0) + (if x.2.flags.claimedCap then 64 else 0)
            + (if x.2.flags.forced then 32 else 0) + (if x.2.flags.compensated then 16 else 0)
            + (if x.2.flags.capped then 8 else 0) + x.2.target / 256),
          u8 x.2.target, u8 (4 * faultCount s.plans.running s.faults x.1.2 + x.2.applied / 256), u8 x.2.applied] := by
  have hused : (fun x : (ZoneRecord × Nat) × ZoneLevel => x.1.1.kind != .unused) =
      fun x => decide (x.1.1.kind ≠ .unused) := by
    funext x
    cases x.1.1.kind <;> rfl
  rw [State.zoneEntries, hused]
  rfl

theorem ZoneRecord.zoneCode_table (r : ZoneRecord) :
    (r.kind = .unused → r.zoneCode = 0) ∧ (r.kind = .interior → r.zoneCode = 5)
      ∧ (r.portal = some .a → (r.kind = .threshold → r.zoneCode = 1) ∧ (r.kind = .transition → r.zoneCode = 3)
        ∧ (r.kind = .exit → r.zoneCode = 6))
      ∧ (r.portal = some .b → (r.kind = .threshold → r.zoneCode = 2) ∧ (r.kind = .transition → r.zoneCode = 4)
        ∧ (r.kind = .exit → r.zoneCode = 7)) := by
  refine ⟨fun hk => ?_, fun hk => ?_, fun hp => ⟨fun hk => ?_, fun hk => ?_, fun hk => ?_⟩,
    fun hp => ⟨fun hk => ?_, fun hk => ?_, fun hk => ?_⟩⟩ <;> simp only [zoneCode, *]

theorem packCodes_length : ∀ codes : List Nat, (packCodes codes).length = (codes.length + 1) / 2
  | [] => rfl
  | [_] => by simp [packCodes]
  | x :: y :: rest => by
    simp only [packCodes, List.length_cons, packCodes_length rest]
    omega

/-- Character `k` holds the codes at `2k` and `2k + 1`. -/
theorem packCodes_getElem? : ∀ (codes : List Nat) (k : Nat), 2 * k + 1 < codes.length →
    (packCodes codes)[k]? = some (u8 (16 * codes.getD (2 * k) 0 + codes.getD (2 * k + 1) 0))
  | [], _, h => absurd h (Nat.not_lt_zero _)
  | [_], k, h => absurd h (by simp)
  | x :: y :: rest, 0, _ => rfl
  | x :: y :: rest, k + 1, h => by
    have hrest : 2 * k + 1 < rest.length := by
      rw [List.length_cons, List.length_cons] at h
      omega
    simpa [packCodes, Nat.mul_succ] using packCodes_getElem? rest k hrest

/-! ### READ CHANNELS, READ CLAIMS and READ PART -/

theorem exec_readChannels {s : State} {l : Line} {first count : Byte} (h : s.Reached l)
    (hshown : first.toNat ≤ 31 ∧ 1 ≤ count.toNat ∧ count.toNat ≤ 8 ∧ first.toNat + count.toNat ≤ 32) :
    exec (.readChannels l false [first, count]) s =
      .next ((s.addressed l false).answered l 0x04
        ⟨.done, [first, count] ++ (((s.stage.chans.zip s.faults).drop first.toNat).take count.toNat).flatMap
          fun x => channelEntry x.1 x.2⟩) :=
  exec_reached .readChannels h (by simp) rfl (by simp only [ownerTakes, takeReadChannels, if_pos hshown]; rfl)

theorem exec_readChannels_of_range {s : State} {l : Line} {first count : Byte} (h : s.Reached l)
    (hout : ¬(first.toNat ≤ 31 ∧ 1 ≤ count.toNat ∧ count.toNat ≤ 8 ∧ first.toNat + count.toNat ≤ 32)) :
    exec (.readChannels l false [first, count]) s = .next (s.repliedOnly l 0x04 .badField) :=
  exec_repliedOnly .readChannels h (by simp) rfl (by simp only [ownerTakes, takeReadChannels, if_neg hout])

theorem exec_readChannels_of_length {s : State} {l : Line} {fields : List Byte} (h : s.Reached l)
    (hlength : fields.length ≠ 2) (hf : fields.length ≤ 59) :
    exec (.readChannels l false fields) s = .next (s.repliedOnly l 0x04 .badField) := by
  refine exec_repliedOnly .readChannels h hf rfl ?_
  simp only [ownerTakes, takeReadChannels]
  split
  · exact absurd rfl hlength
  · rfl

theorem exec_readClaims {s : State} {l : Line} {start : Byte} (h : s.Reached l) (hstart : start.toNat ≤ 15) :
    exec (.readClaims l false [start]) s =
      .next ((s.addressed l false).answered l 0x05
        ⟨.done, [u8 s.claims.table.length, u8 ((s.claims.table.drop start.toNat).take 6).length]
          ++ ((s.claims.table.drop start.toNat).take 6).flatMap Claim.entry⟩) :=
  exec_reached .readClaims h (by simp) rfl (by simp only [ownerTakes, takeReadClaims, if_pos hstart]; rfl)

theorem exec_readClaims_of_range {s : State} {l : Line} {start : Byte} (h : s.Reached l) (hstart : 16 ≤ start.toNat) :
    exec (.readClaims l false [start]) s = .next (s.repliedOnly l 0x05 .badField) :=
  exec_repliedOnly .readClaims h (by simp) rfl
    (by simp only [ownerTakes, takeReadClaims, if_neg (Nat.not_le.2 (show 15 < start.toNat from hstart))])

theorem exec_readClaims_of_length {s : State} {l : Line} {fields : List Byte} (h : s.Reached l)
    (hlength : fields.length ≠ 1) (hf : fields.length ≤ 59) :
    exec (.readClaims l false fields) s = .next (s.repliedOnly l 0x05 .badField) := by
  refine exec_repliedOnly .readClaims h hf rfl ?_
  simp only [ownerTakes, takeReadClaims]
  split
  · exact absurd rfl hlength
  · rfl

theorem exec_readPart {s : State} {l : Line} (h : s.Reached l) :
    exec (.readPart l false []) s =
      .next ((s.addressed l false).answered l 0x06 ⟨.done, (s.addressed l false).partFigures l⟩) :=
  exec_reached .readPart h (by simp) rfl rfl

/-! ### PLAN READ -/

theorem PlanMemory.select_eq_some {m : PlanMemory} {n : Nat} {p : Plan} :
    m.select n = some p ↔ (n = 0 ∧ p = m.running) ∨ (n = 1 ∧ p = m.draft) := by
  match n with
  | 0 => simp [select, eq_comm]
  | 1 => simp [select, eq_comm]
  | n + 2 => simp [select]

theorem readSection_of_unlisted (p : Plan) (index : Nat) : ∀ {sec : Nat}, 4 < sec → readSection p sec index = none
  | 0, h | 1, h | 2, h | 3, h | 4, h => absurd h (by decide)
  | _ + 5, _ => rfl

theorem exec_planRead {s : State} {sel sec index : Byte} {p : Plan} {payload : List Byte} (h : s.Reached .s)
    (hsel : s.plans.select sel.toNat = some p) (hsec : readSection p sec.toNat index.toNat = some payload) :
    exec (.planRead .s false [sel, sec, index]) s =
      .next ((s.addressed .s false).answered .s 0x31 ⟨.done, payload⟩) :=
  exec_reached .planRead h (by simp) rfl
    (by simp only [ownerTakes, takePlanRead, State.addressed_plans, hsel, Option.bind_some, hsec])

/-- A selector, a section or an index that is not listed. -/
theorem planRead_eq_none {m : PlanMemory} {sel sec index : Nat}
    (h : 1 < sel ∨ 4 < sec ∨ (sec = 0 ∧ index ≠ 0) ∨ (sec ∈ [1, 2] ∧ 1 < index) ∨ (sec = 3 ∧ 11 < index)
      ∨ (sec = 4 ∧ 31 < index)) : ((m.select sel).bind fun p => readSection p sec index) = none := by
  have hportal : 1 < index → portalOfCode index = none := fun hindex =>
    Option.eq_none_iff_forall_ne_some.2 fun x hx => by
      have hcode := portalOfCode_eq_some.1 hx
      split at hcode <;> omega
  rw [Option.bind_eq_none_iff]
  intro p hp
  obtain hsel | hsec | ⟨rfl, hindex⟩ | ⟨hsec, hindex⟩ | ⟨rfl, hindex⟩ | ⟨rfl, hindex⟩ := h
  · obtain ⟨rfl, -⟩ | ⟨rfl, -⟩ := PlanMemory.select_eq_some.1 hp <;> omega
  · exact readSection_of_unlisted p index hsec
  · exact if_neg hindex
  · obtain rfl | rfl : sec = 1 ∨ sec = 2 := by simpa using hsec
    · simp only [readSection, hportal hindex, Option.map_none]
    · simp only [readSection, hportal hindex, Option.map_none]
  · exact if_neg (Nat.not_le.2 hindex)
  · exact if_neg (Nat.not_le.2 hindex)

theorem exec_planRead_of_length {s : State} {fields : List Byte} (h : s.Reached .s) (hlength : fields.length ≠ 3)
    (hf : fields.length ≤ 59) : exec (.planRead .s false fields) s = .next (s.repliedOnly .s 0x31 .badField) := by
  refine exec_repliedOnly .planRead h hf rfl ?_
  simp only [ownerTakes, takePlanRead]
  split
  · exact absurd rfl hlength
  · rfl

/-- What each section of a plan reads as. -/
theorem readSection_table (p : Plan) (hzones : p.zones.length = 12) (hchannels : p.channels.length = 32) (index : Nat) :
    readSection p 0 0 = some p.general.bytes
      ∧ (∀ x : Portal, index = (if x = .a then 0 else 1) →
          readSection p 1 index = some (p.portals.get x).bytes ∧ readSection p 2 index = some (curveBytes (p.curves.get x)))
      ∧ (∀ r, p.zones[index]? = some r → readSection p 3 index = some r.bytes)
      ∧ (∀ r, p.channels[index]? = some r → readSection p 4 index = some r.bytes) := by
  refine ⟨rfl, fun x hx => ?_, fun r hr => ?_, fun r hr => ?_⟩
  · simp only [readSection, portalOfCode_eq_some.2 hx, Option.map_some, and_self]
  · have hindex : index < 12 := hzones ▸ (List.getElem?_eq_some_iff.1 hr).1
    simp only [readSection, if_pos (Nat.le_of_lt_succ hindex), hr, Option.map_some]
  · have hindex : index < 32 := hchannels ▸ (List.getElem?_eq_some_iff.1 hr).1
    simp only [readSection, if_pos (Nat.le_of_lt_succ hindex), hr, Option.map_some]

/-- Settles O48: each read at its owner, what it refuses, the zone codes and the code tables. -/
theorem readsReportAndChangeNothing : Obligations.ReadsReportAndChangeNothing := by
  unfold Obligations.ReadsReportAndChangeNothing
  refine ⟨fun s l h => ?reads, ZoneRecord.zoneCode_table, fun codes hlength => ⟨?_, fun k hk => ?_⟩, rfl, rfl, rfl, rfl, rfl,
    rfl, rfl, rfl, rfl, rfl, rfl, rfl, rfl⟩
  case reads =>
    refine ⟨exec_readPortals h, ?zones, fun first count hfirst hone height hend => ?_, fun first count hout => ?_,
      fun fields => exec_readChannels_of_length h, fun start hstart => ?claims, fun start => exec_readClaims_of_range h,
      fun fields => exec_readClaims_of_length h, exec_readPart h, ?plan, ?planRefused, ?_⟩
    case zones =>
      rw [← State.zoneEntries_eq]
      exact exec_readZones h
    case claims =>
      rw [exec_readClaims h hstart, List.length_take, List.length_drop]
      rfl
    case plan =>
      rintro rfl sel sec index p hp hzones hchannels
      have hsel : s.plans.select sel.toNat = some p := PlanMemory.select_eq_some.2
        (hp.imp (fun ⟨h0, hp⟩ => ⟨by rw [h0]; rfl, hp⟩) fun ⟨h1, hp⟩ => ⟨by rw [h1]; rfl, hp⟩)
      obtain ⟨hgeneral, hportal, hzone, hchannel⟩ := readSection_table p hzones hchannels index.toNat
      have hcode : ∀ x : Portal, index = (if x = .a then 0 else 1) → index.toNat = if x = .a then 0 else 1 := by
        rintro (_ | _) rfl <;> rfl
      refine ⟨?_, ?_, ?_, ?_, ?_⟩
      · rintro rfl rfl
        exact exec_planRead h hsel hgeneral
      · rintro x rfl hx
        exact exec_planRead h hsel (hportal x (hcode x hx)).1
      · rintro x rfl hx
        exact exec_planRead h hsel (hportal x (hcode x hx)).2
      · rintro r rfl hr
        exact exec_planRead h hsel (hzone r hr)
      · rintro r rfl hr
        exact exec_planRead h hsel (hchannel r hr)
    case planRefused =>
      rintro rfl sel sec index hout
      refine exec_repliedOnly .planRead h (by simp) rfl ?_
      have hnone : ((s.plans.select sel.toNat).bind fun p => readSection p sec.toNat index.toNat) = none := by
        refine planRead_eq_none ?_
        simp only [BitVec.toNat_eq, BitVec.ofNat_eq_ofNat, ne_eq, BitVec.toNat_ofNat] at hout
        exact hout
      simp only [ownerTakes, takePlanRead, State.addressed_plans, hnone]
    · exact exec_readChannels h ⟨hfirst, hone, height, hend⟩
    · exact exec_readChannels_of_range h (by omega)
    · rintro rfl fields
      exact exec_planRead_of_length h
  · rw [packCodes_length, hlength]
  · exact packCodes_getElem? codes k (by omega)

end Sys2Proof.Machine
end
